-- ==== Sys2Proof/Word.lean ====
section
/-! DEFINITION. The word types of the AX16 and the difference of two Test Times. -/

namespace Sys2Proof

/-- One byte of the acquisition link (R200). -/
abbrev Byte := BitVec 8

/-- A sample of an acoustic lane, a signed 16-bit code (0.5), or a code of the pressure lane. -/
abbrev Sample := BitVec 16

/-- Test Time, a 48-bit count of ticks (R6). -/
abbrev TestTime := BitVec 48

/-- A 32-bit counter or identifier, wrapping modulo 2^32 (0.5). -/
abbrev Counter := BitVec 32

/-- An acoustic channel, CH0 to CH15 (0.5). -/
abbrev Channel := Fin 16

/-- A zone, Z0 to Z15 (0.5). -/
abbrev Zone := Fin 16

end Sys2Proof
end

