-- ==== Sys2Proof/Syntax.lean ====
section
/-! DEFINITION. The commands of the AX16: one constructor for each row of spec/opcode_table.json. -/

namespace Sys2Proof

/-- What an acoustic lane delivers on one tick (R9). The sample of a malformed word is never used: the held sample is
delivered in its place (R14). -/
inductive LaneWord where
  /-- A word whose sync marker stands where word sync expects it. -/
  | wellFormed (s : Sample)
  /-- A word whose marker is absent from that place. -/
  | malformed
  /-- No word on this tick. -/
  | missing
  deriving DecidableEq, Repr

/-- A word of the pressure lane (R20). -/
inductive PressureWord where
  /-- A well-formed word with its unsigned code. -/
  | wellFormed (code : Sample)
  /-- A malformed word. -/
  | malformed
  deriving DecidableEq, Repr

/-- One command. The requests carry their tag and the payload bytes that follow it (R200, section 13.3); payloads of a
wrong length, and kinds the link does not know, come in through `downlinkFrameEnd` (log 1). -/
inductive Instr where
  /-- POWER_ON_RESET. -/
  | powerOnReset
  /-- IDENTIFY (R171). -/
  | identify (tag : Byte)
  /-- GO(STANDBY) (R24). -/
  | goStandby (tag : Byte)
  /-- GO(ARMED) (R25). -/
  | goArmed (tag : Byte)
  /-- GO(OFF) (R26). -/
  | goOff (tag : Byte)
  /-- ABORT (R27). -/
  | abort (tag : Byte)
  /-- ZERO_TIME (R7). -/
  | zeroTime (tag : Byte)
  /-- LOAD_BEGIN(table, first, count) (R184). -/
  | loadBegin (tag table first count : Byte)
  /-- LOAD_DATA(table, count, entries) (R186). -/
  | loadData (tag table count : Byte) (entries : List Byte)
  /-- LOAD_ABORT (R187). -/
  | loadAbort (tag : Byte)
  /-- READ_TABLE(table, first, count) (R193). -/
  | readTable (tag table first count : Byte)
  /-- LOCK_TEST (R190). -/
  | lockTest (tag : Byte)
  /-- UNLOCK_TEST (R191). -/
  | unlockTest (tag : Byte)
  /-- STATUS_READ(page) (R174). -/
  | statusRead (tag page : Byte)
  /-- CLEAR_CONDITIONS with the bytes of the seven masks in the condition layout (R175). -/
  | clearConditions (tag : Byte) (masks : List Byte)
  /-- SET_ENABLES(group, group enable, factor enables) (R176). -/
  | setEnables (tag group groupEnable : Byte) (enables : List Byte)
  /-- SET_PHASE(phase) (R123). -/
  | setPhase (tag phase : Byte)
  /-- RESET_LOAD_HISTORY (R121). -/
  | resetLoadHistory (tag : Byte)
  /-- SOFT_RESET (R178). -/
  | softReset (tag : Byte)
  /-- A downlink frame has ended: its bytes after the start marker, as they came on the link (R167, R200). -/
  | downlinkFrameEnd (wire : List Byte)
  /-- The phase comparator indicates lock (R2). -/
  | lockAchieved
  /-- The 20 ms lock timer expires (R2). -/
  | lockTimerExpiry
  /-- The phase comparator indicates loss of lock (R4). -/
  | lockLost
  /-- One tick: the words of the sixteen lanes (R42). -/
  | sampleRow (words : Vector LaneWord 16)
  /-- The rearm hold of one channel ends (R51). -/
  | rearmExpiry (ch : Channel)
  /-- 4000 ticks without word sync on one lane (R11). -/
  | laneSyncTimeout (ch : Channel)
  /-- The settle period of one lane ends (R12). -/
  | laneSettleEnd (ch : Channel)
  /-- The controller's SYNCING substep ends (R31). -/
  | syncingSubstepEnd
  /-- The controller's SETTLING substep ends (R31). -/
  | settlingSubstepEnd
  /-- The learning period ends (R60). -/
  | learningEnd
  /-- The windows that have ended expire (R99). -/
  | windowExpiry
  /-- The interval timer expires (R127). -/
  | intervalExpiry
  /-- A word arrives on the pressure lane (R20, R21). -/
  | pressureWord (word : PressureWord)
  /-- A 1000-tick slot of the pressure lane ends (R20). -/
  | plSlotEnd
  /-- The wait of the Hit Queue's head reaches flush_us (R158). -/
  | flushExpiry
  /-- The link port reports the receiver ready or not ready (R156). -/
  | readinessReport (ready : Bool)
  /-- The last part of the uplink frame has left (R155). -/
  | frameSent
  /-- The loader's idle timer expires (R187). -/
  | loadIdleTimeout
  deriving DecidableEq, Repr

end Sys2Proof
end

