-- ==== Sys2Proof/Decode.lean ====
section
/-! DEFINITION. The commands that a word of table bits spells. No row of spec/opcode_table.json has bits ("fields" is empty in
all 38), so no word spells a command. The bytes of request frames are read in Machine/Operands.lean and Machine/Requests.lean. -/

namespace Sys2Proof

/-- The command whose table bits are `w`: there is none, because the table gives no row bits. -/
def decodeTableWord (_nbits _w : Nat) : Option Instr := none

end Sys2Proof
end

