-- ==== Sys2Proof/Config.lean ====
section
/-! DEFINITION. The free values: what the manual leaves without a value. None has a body, so no proof can lean on one. -/

namespace Sys2Proof

/-- What STATUS page 0 carries as the next hit_id after exhaustion: R44 says that the counter does not wrap and
gives no value that it reads as then. DESIGN CHOICE, log 16. -/
opaque Config.exhaustedHitId : Counter

/-- What STATUS page 0 carries as the wait of the Hit Queue's head when the wait in microseconds is 2^32 − 1 or more:
R201 gives the wait four bytes, with all ones for none. DESIGN CHOICE, log 17. -/
opaque Config.longWait : Nat → Counter

/-- The mean magnitude over no sample. R60 and R67 never divide by a count of 0 in any run. DESIGN CHOICE, log 20. -/
opaque Config.emptyMean : Nat

/-- The distance of two channels that no used Pair Table slot names. R108 needs one only for pairs under which a
member joined, so no run asks for it. DESIGN CHOICE, log 20. -/
opaque Config.unpairedDistance : Channel → Channel → Nat

end Sys2Proof
end

