-- ==== Sys2Proof/Machine/Operands.lean ====
section
/-! DEFINITION. The byte-level operands and small helpers: per-channel tables, big-endian fields (section 13.1), the envelope's
escapes and frame check (R200), the table CRC-32 (R202), and differences of Test Time (R68). -/

namespace Sys2Proof.Machine

/-- A sixteen-entry table, entry by entry. -/
def tabulate {α : Type} (f : Fin 16 → α) : Vector α 16 :=
  ⟨#[f 0, f 1, f 2, f 3, f 4, f 5, f 6, f 7, f 8, f 9, f 10, f 11, f 12, f 13, f 14, f 15], rfl⟩

/-- One entry of a table changed. -/
def upd {α : Type} {n : Nat} (v : Vector α n) (i : Fin n) (f : α → α) : Vector α n :=
  v.set i (f v[i])

/-- The channels in ascending number (R42). -/
def channels : List Channel := [0, 1, 2, 3, 4, 5, 6, 7, 8, 9, 10, 11, 12, 13, 14, 15]

/-- R68: a difference of two Test Times, modulo 2^48. -/
def ticksBetween (later earlier : TestTime) : Nat := (later - earlier).toNat

/-- 0.5: clamp on natural numbers. -/
def clampNat (x lo hi : Nat) : Nat := if x < lo then lo else if hi < x then hi else x

/-- 0.5: clamp of an exact integer to a range of natural numbers. -/
def clampInt (x : Int) (hi : Nat) : Nat := if x < 0 then 0 else if (hi : Int) < x then hi else x.toNat

/-- ceil(x / 256): the blocks that hold x samples (R134). -/
def blocksFor (samples : Nat) : Nat := (samples + 255) / 256

/-- Section 13.1: `n` bytes, most significant first. -/
def beBytes : Nat → Nat → List Byte
  | 0, _ => []
  | n + 1, x => BitVec.ofNat 8 (x / 256 ^ n) :: beBytes n x

/-- Section 13.1: the number that bytes spell, most significant first. -/
def beNat (bs : List Byte) : Nat := bs.foldl (fun acc b => acc * 256 + b.toNat) 0

/-- The field of `size` bytes at an offset (section 13.1). -/
def fieldAt (bs : List Byte) (offset size : Nat) : Nat := beNat ((bs.drop offset).take size)

/-- Four bytes of a signed value, in two's complement (section 13.1). -/
def signedBytes (x : Int) : List Byte := beBytes 4 (BitVec.ofInt 32 x).toNat

/-- A flag byte's bit. -/
def flagBit (b : Bool) (k : Nat) : Nat := if b then 2 ^ k else 0

/-- One byte. -/
def byte (n : Nat) : Byte := BitVec.ofNat 8 n

/-- A one-byte field that can lack a value: 255 stands for none (section 13.1). -/
def optByte (o : Option Nat) : Byte := byte (o.getD 255)

/-- `k n`, with `n` brought to a numeral first, so that the kernel evaluates a long loop one turn at a time. -/
def forceNat {α : Type} (n : Nat) (k : Nat → α) : α :=
  match n with
  | 0 => k 0
  | m + 1 => k (m + 1)

/-- R200: one bit of the frame check, polynomial 0x1021, most significant bit first. -/
def crc16Bit (c : Nat) : Nat :=
  if 32768 ≤ c then ((2 * c) % 65536) ^^^ 0x1021 else 2 * c

/-- R200: one byte into the frame check. -/
def crc16Byte (c : Nat) (b : Byte) : Nat :=
  let c := c ^^^ (b.toNat * 256)
  crc16Bit (crc16Bit (crc16Bit (crc16Bit (crc16Bit (crc16Bit (crc16Bit (crc16Bit c)))))))

/-- The frame check from a running value. -/
def crc16From : Nat → List Byte → Nat
  | c, [] => c
  | c, b :: bs => forceNat (crc16Byte c b) fun c => crc16From c bs

/-- R200: the frame check, initial value 0xFFFF, not inverted. -/
def crc16 (bs : List Byte) : Nat := crc16From 0xFFFF bs

/-- R202: one bit of the table CRC, reflected polynomial, least significant bit first. -/
def crc32Bit (c : Nat) : Nat :=
  if c % 2 = 1 then (c / 2) ^^^ 0xEDB88320 else c / 2

/-- R202: one byte into the table CRC. -/
def crc32Byte (c : Nat) (b : Byte) : Nat :=
  let c := c ^^^ b.toNat
  crc32Bit (crc32Bit (crc32Bit (crc32Bit (crc32Bit (crc32Bit (crc32Bit (crc32Bit c)))))))

/-- The table CRC from a running value. -/
def crc32From : Nat → List Byte → Nat
  | c, [] => c
  | c, b :: bs => forceNat (crc32Byte c b) fun c => crc32From c bs

/-- R202: the CRC-32, initial value all ones, the result XORed with all ones. -/
def crc32 (bs : List Byte) : Counter := BitVec.ofNat 32 (crc32From 0xFFFFFFFF bs ^^^ 0xFFFFFFFF)

/-- R200: the start marker. -/
def startMarker : Byte := 0xA5

/-- R200: the escape byte. -/
def escapeByte : Byte := 0xA6

/-- R200: the body's bytes as they are sent, each 0xA5 or 0xA6 escaped. -/
def escapeBytes (bs : List Byte) : List Byte :=
  bs.flatMap fun b => if b = startMarker ∨ b = escapeByte then [escapeByte, b ^^^ 0x40] else [b]

/-- What the receiver reads after a start marker with the escapes undone (R200): the bytes, and whether the frame is spoiled by a
start marker or by an escape byte before a value other than 0xE5 or 0xE6. -/
structure Unescaped where
  bytes : List Byte
  spoiled : Bool
  deriving DecidableEq, Repr

/-- R200: undo the escapes up to the end of the bytes, a start marker or a bad escape. -/
def unescapeBytes : List Byte → Unescaped
  | [] => ⟨[], false⟩
  | b :: rest =>
    if b = startMarker then ⟨[], true⟩
    else if b = escapeByte then
      match rest with
      | [] => ⟨[], true⟩
      | e :: more =>
        if e = 0xE5 ∨ e = 0xE6 then
          let u := unescapeBytes more
          ⟨(e ^^^ 0x40) :: u.bytes, u.spoiled⟩
        else ⟨[], true⟩
    else
      let u := unescapeBytes rest
      ⟨b :: u.bytes, u.spoiled⟩

/-- The largest payload of any request kind, a LOAD_DATA of four CHANNEL entries (section 13.3). -/
def maxRequestPayload : Nat := 107

/-- R200: kind, payload and check of a frame whose bytes have all arrived; absent where a marker, a bad escape or the end of the
bytes came before the frame was whole. Bytes after the check belong to no frame and are discarded. -/
def frameOf (wire : List Byte) : Option (Byte × List Byte × Nat) :=
  match (unescapeBytes wire).bytes with
  | kind :: hi :: lo :: rest =>
    let len := hi.toNat * 256 + lo.toNat
    if len + 2 ≤ rest.length then some (kind, rest.take len, fieldAt rest len 2) else none
  | _ => none

/-- R200: the bytes over which a frame's check is computed. -/
def checkedBytes (kind : Byte) (payload : List Byte) : List Byte :=
  kind :: (beBytes 2 payload.length ++ payload)

/-- R200: a frame as it is sent: the marker, then kind, length, payload and check with escapes. -/
def frameBytes (kind : Byte) (payload : List Byte) : List Byte :=
  let body := checkedBytes kind payload
  startMarker :: escapeBytes (body ++ beBytes 2 (crc16 body))

end Sys2Proof.Machine
end

