-- ==== Sys2Proof/Machine/Levels.lean ====
section
/-! DEFINITION. The level arithmetic of Chapter 4: the ladder, threshold codes and background levels. -/

namespace Sys2Proof.Machine

/-- R62, levels 0 to 19. -/
def ladderRowA : List Nat :=
  [1000, 1123, 1259, 1413, 1585, 1779, 1996, 2239, 2512, 2819, 3163, 3549, 3982, 4467, 5012, 5624, 6310, 7080, 7944, 8913]

/-- R62, levels 20 to 39. -/
def ladderRowB : List Nat :=
  [10000, 11221, 12590, 14126, 15849, 17783, 19953, 22388, 25119, 28184, 31623, 35482, 39811, 44669, 50119, 56235, 63096,
   70795, 79433, 89126]

/-- R62, levels 40 to 59. -/
def ladderRowC : List Nat :=
  [100000, 112202, 125893, 141254, 158490, 177828, 199527, 223873, 251189, 281839, 316228, 354814, 398108, 446684, 501188,
   562342, 630958, 707946, 794329, 891251]

/-- R62, levels 60 to 79. -/
def ladderRowD : List Nat :=
  [1000000, 1122019, 1258926, 1412538, 1584894, 1778280, 1995263, 2238722, 2511887, 2818383, 3162278, 3548134, 3981072,
   4466836, 5011873, 5623414, 6309574, 7079458, 7943283, 8912510]

/-- R62, levels 80 to 99. -/
def ladderRowE : List Nat :=
  [10000000, 11220185, 12589255, 14125376, 15848932, 17782795, 19952624, 22387212, 25118865, 28183830, 31622777, 35481339,
   39810718, 44668360, 50118724, 56234133, 63095735, 70794579, 79432824, 89125094]

/-- R62: the level ladder, L[0] to L[100] in nanovolts. -/
def ladderTable : List Nat :=
  ladderRowA ++ ladderRowB ++ ladderRowC ++ ladderRowD ++ ladderRowE ++ [100000000]

/-- R62: L[A]. Levels run from 0 to 100. -/
def ladderVolt (a : Nat) : Nat := ladderTable.getD a 100000000

/-- R63: ladder(m) with the channel's lsb_nv: the largest A with m × lsb_nv ≥ L[A], and 0 where the product is below L[0]. -/
def ladderLevel (m lsb : Nat) : Nat := (ladderTable.takeWhile fun v => v ≤ m * lsb).length - 1

/-- R64: the smallest code whose voltage reaches the level, limited to 1 to 32767. -/
def thrCodeOf (level lsb : Nat) : Nat := clampNat ((ladderVolt level + lsb - 1) / lsb) 1 32767

/-- R67: floor(sum / count). No run divides by a count of 0 (log 20). -/
def meanMagnitude (sum : BitVec 48) (count : Nat) : Nat :=
  if count = 0 then Config.emptyMean else sum.toNat / count

/-- R67: the level of a mean magnitude. -/
def backgroundLevel (sum : BitVec 48) (count lsb : Nat) : Nat := ladderLevel (meanMagnitude sum count) lsb

/-- 0.5: |s|, with |−32768| = 32768. -/
def magnitude (s : Sample) : Nat := s.toInt.natAbs

/-- 0.4, R74: a full-scale sample, s ≥ 32767 or s = −32768. On a capped channel s = −32767 is active and is not full-scale (log 33). -/
def fullScale (s : Sample) : Bool := decide (s.toInt ≥ 32767) || decide (s.toInt = -32768)

end Sys2Proof.Machine
end

