-- ==== Sys2Proof/WellFormed.lean ====
section
/-! DEFINITION. Well-formed commands: those whose payload has the length that section 13.3 fixes for its kind, and, for a
raw frame, whose bytes the envelope can hold. The machine takes ill-formed commands too: it refuses them BAD_REQUEST or
judges the frame bad. -/

namespace Sys2Proof

/-- The size in bytes of one canonical entry of the table with this number (R202), absent for no table. -/
def entrySizeOf (table : Nat) : Option Nat :=
  match table with
  | 0 => some 25
  | 1 => some 26
  | 2 => some 7
  | 3 => some 13
  | 4 => some 2
  | _ => none

/-- The length rule of R170 for LOAD_DATA, as a check on its operands: where the table byte names a table and the count lies
from 1 to 4, the entries fill exactly count × entry size bytes. -/
def loadDataLengthOk (table count : Byte) (entries : List Byte) : Bool :=
  match entrySizeOf table.toNat with
  | some size => if 1 ≤ count.toNat ∧ count.toNat ≤ 4 then entries.length == count.toNat * size else true
  | none => true

/-- The most bytes a body of a downlink frame can take on the link: kind, length, a payload of 65535 bytes and the check, each
byte escaped (R200). -/
def maxWireBytes : Nat := 2 * (1 + 2 + 65535 + 2)

/-- A command as the formats of Chapter 13 can deliver it. -/
def Instr.wellFormed (i : Instr) : Bool :=
  match i with
  | .loadData _ table count entries => loadDataLengthOk table count entries
  | .clearConditions _ masks => masks.length == 15
  | .setEnables _ _ _ enables => enables.length == 8
  | .downlinkFrameEnd wire => wire.length ≤ maxWireBytes
  | .powerOnReset | .identify _ | .goStandby _ | .goArmed _ | .goOff _ | .abort _ | .zeroTime _ | .loadBegin _ _ _ _
  | .loadAbort _ | .readTable _ _ _ _ | .lockTest _ | .unlockTest _ | .statusRead _ _ | .setPhase _ _
  | .resetLoadHistory _ | .softReset _ | .lockAchieved | .lockTimerExpiry | .lockLost | .sampleRow _ | .rearmExpiry _
  | .laneSyncTimeout _ | .laneSettleEnd _ | .syncingSubstepEnd | .settlingSubstepEnd | .learningEnd | .windowExpiry
  | .intervalExpiry | .pressureWord _ | .plSlotEnd | .flushExpiry | .readinessReport _ | .frameSent
  | .loadIdleTimeout => true

end Sys2Proof
end

