-- ==== Sys2Proof/Machine/Tables.lean ====
section
/-! DEFINITION. The five tables of Chapter 11: their entries, the values their fields may hold, the power-on values, the
canonical byte layouts of R202 and the table CRCs of R183. -/

namespace Sys2Proof.Machine

/-- The five tables, numbered as in section 13.1. -/
inductive TableId where
  | setup
  | channel
  | pair
  | filter
  | zone
  deriving DecidableEq, Repr

/-- The role of a channel (R182). -/
inductive Role where
  | data
  | guard
  deriving DecidableEq, Repr

/-- The threshold mode of a channel (R41). -/
inductive ThresholdMode where
  | fixed
  | floating
  deriving DecidableEq, Repr

/-- The waveform mode of a channel (section 8.3). -/
inductive WaveMode where
  | off
  | all
  | eventOnly
  deriving DecidableEq, Repr

/-- The feature that a filter rule compares (R78). -/
inductive Feature where
  | amplitude
  | duration
  | counts
  | rise
  | energy
  deriving DecidableEq, Repr

/-- The action of a filter rule (R78). -/
inductive FilterAction where
  | rejectInside
  | rejectOutside
  deriving DecidableEq, Repr

/-- The SETUP entry (R181). `intervalK` is absent for OFF. -/
structure SetupEntry where
  velocity : Nat
  settleMs : Nat
  learnMs : Nat
  intervalK : Option Nat
  hitTrigger : Nat
  flushUs : Nat
  loadMarginKpa : Nat
  pGain : Nat
  pOffsetKpa : Int
  shedFloorDb : Nat
  continuousRun : Nat
  deriving DecidableEq, Repr

/-- A CHANNEL entry (R182). -/
structure ChannelEntry where
  enabled : Bool
  role : Role
  mode : ThresholdMode
  thresholdDb : Nat
  marginDb : Nat
  lsbNv : Nat
  pst : Nat
  hct : Nat
  rht : Nat
  maxDuration : Nat
  energyShift : Nat
  zone : Zone
  wfMode : WaveMode
  wfPre : Nat
  wfMax : Nat
  guardMask : BitVec 16
  guardWindow : Nat
  deriving DecidableEq, Repr

/-- A used PAIR slot (R91). An unused slot holds nothing. -/
structure PairEntry where
  chA : Channel
  chB : Channel
  distanceMm : Nat
  dtMax : Nat
  deriving DecidableEq, Repr

/-- A FILTER rule (R78). -/
structure FilterRule where
  active : Bool
  channelMask : BitVec 16
  feature : Feature
  low : Nat
  high : Nat
  action : FilterAction
  deriving DecidableEq, Repr

/-- One entry of one of the tables, as the loader stages it. -/
inductive Entry where
  | setup (e : SetupEntry)
  | channel (e : ChannelEntry)
  | pair (e : Option PairEntry)
  | filter (e : FilterRule)
  | zone (holdLimit : Nat)
  deriving DecidableEq, Repr

/-- The five committed tables. -/
structure Tables where
  setup : SetupEntry
  channel : Vector ChannelEntry 16
  pair : Vector (Option PairEntry) 64
  filter : Vector FilterRule 8
  zone : Vector Nat 16
  deriving DecidableEq, Repr

/-- The five table CRCs (R183). -/
structure TableCrcs where
  setup : Counter
  channel : Counter
  pair : Counter
  filter : Counter
  zone : Counter
  deriving DecidableEq, Repr

/-- Section 13.1: the table's number. -/
def TableId.number (t : TableId) : Nat :=
  match t with
  | .setup => 0
  | .channel => 1
  | .pair => 2
  | .filter => 3
  | .zone => 4

/-- The table that a table byte names. -/
def tableOfByte (b : Byte) : Option TableId :=
  match b.toNat with
  | 0 => some .setup
  | 1 => some .channel
  | 2 => some .pair
  | 3 => some .filter
  | 4 => some .zone
  | _ => none

/-- The number of entries of a table (Chapter 11). -/
def TableId.entries (t : TableId) : Nat :=
  match t with
  | .setup => 1
  | .channel => 16
  | .pair => 64
  | .filter => 8
  | .zone => 16

/-- The size of a canonical entry (R202). -/
def TableId.entrySize (t : TableId) : Nat :=
  match t with
  | .setup => 25
  | .channel => 26
  | .pair => 7
  | .filter => 13
  | .zone => 2

/-- Chapter 11: the tables that the test lock freezes. -/
def TableId.lockable (t : TableId) : Bool :=
  match t with
  | .zone => false
  | _ => true

/-! ## Values of the fields -/

/-- R181: every field lies in its values. -/
def SetupEntry.inRange (e : SetupEntry) : Bool :=
  decide (500 ≤ e.velocity ∧ e.velocity ≤ 10000) && decide (e.settleMs ≤ 1000)
  && decide (1 ≤ e.learnMs ∧ e.learnMs ≤ 60000)
  && (match e.intervalK with | none => true | some k => decide (k ≤ 10))
  && decide (e.hitTrigger = 1 ∨ e.hitTrigger = 4 ∨ e.hitTrigger = 8)
  && decide (1 ≤ e.flushUs ∧ e.flushUs ≤ 1000000) && decide (e.loadMarginKpa ≤ 250000)
  && decide (1 ≤ e.pGain ∧ e.pGain ≤ 65535)
  && decide (-250000 ≤ e.pOffsetKpa ∧ e.pOffsetKpa ≤ 250000)
  && decide (e.shedFloorDb ≤ 100) && decide (1 ≤ e.continuousRun ∧ e.continuousRun ≤ 65535)

/-- R182: every field lies in its values. -/
def ChannelEntry.inRange (e : ChannelEntry) : Bool :=
  decide (20 ≤ e.thresholdDb ∧ e.thresholdDb ≤ 99) && decide (e.marginDb ≤ 40)
  && decide (1 ≤ e.lsbNv ∧ e.lsbNv ≤ 65535) && decide (1 ≤ e.pst ∧ e.pst ≤ 65535)
  && decide (2 ≤ e.hct ∧ e.hct ≤ 65535) && decide (e.rht ≤ 65535)
  && decide (2000 ≤ e.maxDuration ∧ e.maxDuration ≤ 2000000) && decide (e.energyShift ≤ 31)
  && decide (e.wfPre ≤ 1024) && decide (1 ≤ e.wfMax ∧ e.wfMax ≤ 32768)
  && decide (1 ≤ e.guardWindow ∧ e.guardWindow ≤ 65535)

/-- R91: every field of a used slot lies in its values. -/
def PairEntry.inRange (e : PairEntry) : Bool :=
  decide (1 ≤ e.distanceMm ∧ e.distanceMm ≤ 65535) && decide (1 ≤ e.dtMax ∧ e.dtMax ≤ 65535)

/-- R78: every field lies in its values; low ≤ high is left to the whole-load validation (R188). -/
def FilterRule.inRange (e : FilterRule) : Bool :=
  decide (e.low < 2 ^ 32) && decide (e.high < 2 ^ 32)

/-- R186, stage 3: the fields of an entry lie in their values. -/
def Entry.inRange (e : Entry) : Bool :=
  match e with
  | .setup e => e.inRange
  | .channel e => e.inRange
  | .pair none => true
  | .pair (some e) => e.inRange
  | .filter e => e.inRange
  | .zone limit => decide (limit ≤ 65535)

/-! ## Power-on values -/

/-- R181: the power-on SETUP entry. -/
def defaultSetup : SetupEntry :=
  { velocity := 3000, settleMs := 50, learnMs := 1000, intervalK := none, hitTrigger := 4, flushUs := 2000,
    loadMarginKpa := 200, pGain := 4096, pOffsetKpa := 0, shedFloorDb := 45, continuousRun := 4 }

/-- R182: the power-on CHANNEL entry. -/
def defaultChannel : ChannelEntry :=
  { enabled := false, role := .data, mode := .fixed, thresholdDb := 45, marginDb := 10, lsbNv := 305, pst := 100,
    hct := 400, rht := 200, maxDuration := 200000, energyShift := 0, zone := 0, wfMode := .off, wfPre := 256,
    wfMax := 2048, guardMask := 0, guardWindow := 1000 }

/-- R78: the power-on FILTER rule. -/
def defaultFilter : FilterRule :=
  { active := false, channelMask := 0, feature := .amplitude, low := 0, high := 0, action := .rejectInside }

/-- The tables after power-on reset (R78, R91, R125, R181, R182). -/
def defaultTables : Tables :=
  { setup := defaultSetup, channel := tabulate fun _ => defaultChannel, pair := Vector.replicate 64 none,
    filter := Vector.replicate 8 defaultFilter, zone := tabulate fun _ => 0 }

/-! ## Canonical layouts -/

/-- R202: the SETUP layout, 25 bytes. -/
def encodeSetup (e : SetupEntry) : List Byte :=
  beBytes 2 e.velocity ++ beBytes 2 e.settleMs ++ beBytes 2 e.learnMs ++ [optByte e.intervalK]
  ++ beBytes 1 e.hitTrigger ++ beBytes 4 e.flushUs ++ beBytes 4 e.loadMarginKpa ++ beBytes 2 e.pGain
  ++ signedBytes e.pOffsetKpa ++ beBytes 1 e.shedFloorDb ++ beBytes 2 e.continuousRun

/-- The flags byte of a CHANNEL entry (R202): bit 0 enabled, 1 GUARD role, 2 FLOATING. -/
def channelFlags (e : ChannelEntry) : Nat :=
  flagBit e.enabled 0 + flagBit (e.role == .guard) 1 + flagBit (e.mode == .floating) 2

/-- Section 13.1: the number of a waveform mode. -/
def WaveMode.number (m : WaveMode) : Nat :=
  match m with
  | .off => 0
  | .all => 1
  | .eventOnly => 2

/-- The waveform mode of a number. -/
def waveModeOf (n : Nat) : Option WaveMode :=
  match n with
  | 0 => some .off
  | 1 => some .all
  | 2 => some .eventOnly
  | _ => none

/-- Section 13.1: the number of a feature. -/
def Feature.number (f : Feature) : Nat :=
  match f with
  | .amplitude => 0
  | .duration => 1
  | .counts => 2
  | .rise => 3
  | .energy => 4

/-- The feature of a number. -/
def featureOf (n : Nat) : Option Feature :=
  match n with
  | 0 => some .amplitude
  | 1 => some .duration
  | 2 => some .counts
  | 3 => some .rise
  | 4 => some .energy
  | _ => none

/-- R202: the CHANNEL layout, 26 bytes. -/
def encodeChannel (e : ChannelEntry) : List Byte :=
  beBytes 1 (channelFlags e) ++ beBytes 1 e.thresholdDb ++ beBytes 1 e.marginDb ++ beBytes 2 e.lsbNv
  ++ beBytes 2 e.pst ++ beBytes 2 e.hct ++ beBytes 2 e.rht ++ beBytes 4 e.maxDuration ++ beBytes 1 e.energyShift
  ++ beBytes 1 e.zone.val ++ beBytes 1 e.wfMode.number ++ beBytes 2 e.wfPre ++ beBytes 2 e.wfMax
  ++ beBytes 2 e.guardMask.toNat ++ beBytes 2 e.guardWindow

/-- R202: the PAIR layout, 7 bytes; an unused slot has every field but its used mark at 0 (R183). -/
def encodePair (e : Option PairEntry) : List Byte :=
  match e with
  | none => beBytes 7 0
  | some p => beBytes 1 1 ++ beBytes 1 p.chA.val ++ beBytes 1 p.chB.val ++ beBytes 2 p.distanceMm ++ beBytes 2 p.dtMax

/-- R202: the FILTER layout, 13 bytes. -/
def encodeFilter (e : FilterRule) : List Byte :=
  beBytes 1 (flagBit e.active 0) ++ beBytes 2 e.channelMask.toNat ++ beBytes 1 e.feature.number ++ beBytes 4 e.low
  ++ beBytes 4 e.high ++ beBytes 1 (flagBit (e.action == .rejectOutside) 0)

/-- R202: the ZONE layout, 2 bytes. -/
def encodeZone (limit : Nat) : List Byte := beBytes 2 limit

/-- R202: an entry in canonical layout. -/
def encodeEntry (e : Entry) : List Byte :=
  match e with
  | .setup e => encodeSetup e
  | .channel e => encodeChannel e
  | .pair e => encodePair e
  | .filter e => encodeFilter e
  | .zone limit => encodeZone limit

/-- The SETUP entry that 25 bytes spell, where every field lies in its values. -/
def decodeSetup (bs : List Byte) : Option SetupEntry :=
  let k := fieldAt bs 6 1
  let e : SetupEntry :=
    { velocity := fieldAt bs 0 2, settleMs := fieldAt bs 2 2, learnMs := fieldAt bs 4 2,
      intervalK := if k = 255 then none else some k, hitTrigger := fieldAt bs 7 1, flushUs := fieldAt bs 8 4,
      loadMarginKpa := fieldAt bs 12 4, pGain := fieldAt bs 16 2,
      pOffsetKpa := (BitVec.ofNat 32 (fieldAt bs 18 4)).toInt, shedFloorDb := fieldAt bs 22 1,
      continuousRun := fieldAt bs 23 2 }
  if e.inRange then some e else none

/-- The CHANNEL entry that 26 bytes spell, where every field lies in its values and no unused bit is set. -/
def decodeChannel (bs : List Byte) : Option ChannelEntry :=
  let flags := fieldAt bs 0 1
  let zone := fieldAt bs 16 1
  match waveModeOf (fieldAt bs 17 1) with
  | none => none
  | some wfMode =>
    let e : ChannelEntry :=
      { enabled := flags.testBit 0, role := if flags.testBit 1 then .guard else .data,
        mode := if flags.testBit 2 then .floating else .fixed, thresholdDb := fieldAt bs 1 1,
        marginDb := fieldAt bs 2 1, lsbNv := fieldAt bs 3 2, pst := fieldAt bs 5 2, hct := fieldAt bs 7 2,
        rht := fieldAt bs 9 2, maxDuration := fieldAt bs 11 4, energyShift := fieldAt bs 15 1,
        zone := Fin.ofNat 16 zone, wfMode := wfMode, wfPre := fieldAt bs 18 2, wfMax := fieldAt bs 20 2,
        guardMask := BitVec.ofNat 16 (fieldAt bs 22 2), guardWindow := fieldAt bs 24 2 }
    if flags < 8 ∧ zone < 16 ∧ e.inRange then some e else none

/-- The PAIR slot that 7 bytes spell. A slot loaded unused is not checked field by field (R202). -/
def decodePair (bs : List Byte) : Option (Option PairEntry) :=
  match fieldAt bs 0 1 with
  | 0 => some none
  | 1 =>
    let a := fieldAt bs 1 1
    let b := fieldAt bs 2 1
    let e : PairEntry :=
      { chA := Fin.ofNat 16 a, chB := Fin.ofNat 16 b, distanceMm := fieldAt bs 3 2, dtMax := fieldAt bs 5 2 }
    if a < 16 ∧ b < 16 ∧ e.inRange then some (some e) else none
  | _ => none

/-- The FILTER rule that 13 bytes spell, where every field lies in its values. -/
def decodeFilter (bs : List Byte) : Option FilterRule :=
  let active := fieldAt bs 0 1
  let action := fieldAt bs 12 1
  match featureOf (fieldAt bs 3 1) with
  | none => none
  | some feature =>
    let e : FilterRule :=
      { active := active = 1, channelMask := BitVec.ofNat 16 (fieldAt bs 1 2), feature := feature,
        low := fieldAt bs 4 4, high := fieldAt bs 8 4,
        action := if action = 1 then .rejectOutside else .rejectInside }
    if active < 2 ∧ action < 2 ∧ e.inRange then some e else none

/-- R186, stage 3, and R202: the entry that canonical bytes spell, absent where field checking fails. -/
def decodeEntry (t : TableId) (bs : List Byte) : Option Entry :=
  match t with
  | .setup => (decodeSetup bs).map Entry.setup
  | .channel => (decodeChannel bs).map Entry.channel
  | .pair => (decodePair bs).map Entry.pair
  | .filter => (decodeFilter bs).map Entry.filter
  | .zone => some (.zone (fieldAt bs 0 2))

/-- The entries that `count` layouts laid end to end spell, absent where field checking fails for one of them. -/
def decodeEntries (t : TableId) : Nat → List Byte → Option (List Entry)
  | 0, _ => some []
  | n + 1, bs =>
    match decodeEntry t (bs.take t.entrySize), decodeEntries t n (bs.drop t.entrySize) with
    | some e, some es => some (e :: es)
    | _, _ => none

/-! ## Reading and replacing entries -/

/-- The committed entry at an index; absent beyond the table. -/
def Tables.entryAt (t : Tables) (id : TableId) (i : Nat) : Option Entry :=
  match id with
  | .setup => if i = 0 then some (.setup t.setup) else none
  | .channel => t.channel.toList[i]?.map Entry.channel
  | .pair => t.pair.toList[i]?.map Entry.pair
  | .filter => t.filter.toList[i]?.map Entry.filter
  | .zone => t.zone.toList[i]?.map Entry.zone

/-- One entry of a table replaced; an entry of another table goes nowhere. -/
def Tables.putEntry (t : Tables) (id : TableId) (i : Nat) (e : Entry) : Tables :=
  match id, e with
  | .setup, .setup e => if i = 0 then { t with setup := e } else t
  | .channel, .channel e => { t with channel := t.channel.setIfInBounds i e }
  | .pair, .pair e => { t with pair := t.pair.setIfInBounds i e }
  | .filter, .filter e => { t with filter := t.filter.setIfInBounds i e }
  | .zone, .zone limit => { t with zone := t.zone.setIfInBounds i limit }
  | .setup, .channel _ | .setup, .pair _ | .setup, .filter _ | .setup, .zone _ => t
  | .channel, .setup _ | .channel, .pair _ | .channel, .filter _ | .channel, .zone _ => t
  | .pair, .setup _ | .pair, .channel _ | .pair, .filter _ | .pair, .zone _ => t
  | .filter, .setup _ | .filter, .channel _ | .filter, .pair _ | .filter, .zone _ => t
  | .zone, .setup _ | .zone, .channel _ | .zone, .pair _ | .zone, .filter _ => t

/-- R189: entries of a table from `first` on replaced by the staged ones. -/
def Tables.putEntries (t : Tables) (id : TableId) : Nat → List Entry → Tables
  | _, [] => t
  | i, e :: es => (t.putEntry id i e).putEntries id (i + 1) es

/-- R183: the canonical form of a whole table, every entry in ascending index. -/
def Tables.canonical (t : Tables) (id : TableId) : List Byte :=
  match id with
  | .setup => encodeSetup t.setup
  | .channel => t.channel.toList.flatMap encodeChannel
  | .pair => t.pair.toList.flatMap encodePair
  | .filter => t.filter.toList.flatMap encodeFilter
  | .zone => t.zone.toList.flatMap encodeZone

/-- R183: the CRC of a table as committed. -/
def Tables.crcOf (t : Tables) (id : TableId) : Counter := crc32 (t.canonical id)

/-- R183: the five CRCs of the tables as committed. -/
def Tables.crcs (t : Tables) : TableCrcs :=
  { setup := t.crcOf .setup, channel := t.crcOf .channel, pair := t.crcOf .pair, filter := t.crcOf .filter,
    zone := t.crcOf .zone }

/-- The held CRC of a table. -/
def TableCrcs.get (c : TableCrcs) (id : TableId) : Counter :=
  match id with
  | .setup => c.setup
  | .channel => c.channel
  | .pair => c.pair
  | .filter => c.filter
  | .zone => c.zone

/-- One held CRC replaced. -/
def TableCrcs.put (c : TableCrcs) (id : TableId) (v : Counter) : TableCrcs :=
  match id with
  | .setup => { c with setup := v }
  | .channel => { c with channel := v }
  | .pair => { c with pair := v }
  | .filter => { c with filter := v }
  | .zone => { c with zone := v }

/-- The five CRCs in table order, each four bytes most significant first (R190, R202). -/
def TableCrcs.bytes (c : TableCrcs) : List Byte :=
  beBytes 4 c.setup.toNat ++ beBytes 4 c.channel.toNat ++ beBytes 4 c.pair.toNat ++ beBytes 4 c.filter.toNat
  ++ beBytes 4 c.zone.toNat

/-- R190, R202: the test digest over the five table CRCs. -/
def digestOf (c : TableCrcs) : Counter := crc32 c.bytes

/-! ## What the blocks read from the tables -/

/-- R91: the slot names the unordered pair. -/
def PairEntry.names (p : PairEntry) (a b : Channel) : Bool :=
  (p.chA == a && p.chB == b) || (p.chA == b && p.chB == a)

/-- R91: the slot names the channel. -/
def PairEntry.touches (p : PairEntry) (j : Channel) : Bool := p.chA == j || p.chB == j

/-- The used slots, in slot order. -/
def Tables.usedPairs (t : Tables) : List PairEntry := t.pair.toList.filterMap id

/-- R91: pair(a, b). -/
def Tables.pairOf (t : Tables) (a b : Channel) : Option PairEntry := t.usedPairs.find? fun p => p.names a b

/-- R91: whether channel j has a pair. -/
def Tables.hasPair (t : Tables) (j : Channel) : Bool := t.usedPairs.any fun p => p.touches j

/-- R91: reach(j), the largest dt_max over the used slots that name j. -/
def Tables.reach (t : Tables) (j : Channel) : Nat :=
  ((t.usedPairs.filter fun p => p.touches j).map PairEntry.dtMax).foldl max 0

/-- Section 2.1: an enabled DATA channel by the table as last committed. -/
def ChannelEntry.enabledData (e : ChannelEntry) : Bool := e.enabled && e.role == .data

/-- R25: there is an enabled DATA channel. -/
def Tables.anyEnabledData (t : Tables) : Bool := t.channel.toList.any ChannelEntry.enabledData

/-- R41: the effective threshold level of an entry with the noise learned so far. -/
def thrDbOf (e : ChannelEntry) (noise : Option Nat) : Nat :=
  match e.mode, noise with
  | .fixed, _ => e.thresholdDb
  | .floating, none => e.thresholdDb
  | .floating, some n => clampNat (n + e.marginDb) 20 99

end Sys2Proof.Machine
end

