-- ==== Sys2Proof/Machine/State.lean ====
section
/-! DEFINITION. The state of the AX16 as plain data, and the state right after power-on reset. Each structure cites the rule
whose table of items it holds. -/

namespace Sys2Proof.Machine

/-! ## Sample Clock Unit (Chapter 1) -/

/-- The synthesizer's state (section 1.1). While LOCKING the lock timer runs (R1): `expiry` is the link-clock microsecond at
which its 20 ms have run. -/
inductive Synth where
  | stopped
  | locking (expiry : Nat)
  | locked
  | lost
  deriving DecidableEq, Repr

/-- The cause of a lane fault (R17). -/
inductive LaneCause where
  | noSync
  | framing
  | silent
  | stuck
  deriving DecidableEq, Repr

/-- The state of an acoustic lane (section 1.3). `reported` tells whether the first LIVE tick has been taken (R13). -/
inductive LaneState where
  | off
  | syncing
  | settling
  | live (reported : Bool)
  | faulted (cause : LaneCause)
  deriving DecidableEq, Repr

/-- An acoustic lane receiver (the table of section 1.3). `settleLength` is settle_ms × 2000 as taken at entry to SETTLING
(R12), `declared` whether word sync was declared since lock (R31). -/
structure Lane where
  state : LaneState
  lastFault : Option LaneCause
  held : Sample
  goodRun : Nat
  syncTicks : Nat
  settleTicks : Nat
  settleLength : Nat
  framingList : List (BitVec 48)
  missingRun : Nat
  fullRun : Nat
  cleanRun : Nat
  framingErrors : Counter
  faultEntries : Counter
  tickNumber : BitVec 48
  declared : Bool
  deriving DecidableEq, Repr

/-- The state of the pressure lane (section 1.4). -/
inductive PlState where
  | syncing
  | live
  | stale
  deriving DecidableEq, Repr

/-- The pressure receiver (the table of section 1.4). -/
structure PressureLane where
  state : PlState
  slotTicks : Nat
  slotFilled : Bool
  missingRun : Nat
  framingErrors : Counter
  deriving DecidableEq, Repr

/-! ## Acquisition Controller (Chapter 2) -/

/-- The targets of STARTING (section 2.1). -/
inductive StartTarget where
  | standby
  | armed
  deriving DecidableEq, Repr

/-- The targets of DRAINING (section 2.1). -/
inductive DrainTarget where
  | standby
  | off
  deriving DecidableEq, Repr

/-- The substeps of STARTING with their tick counts (R31). -/
inductive Substep where
  | locking
  | syncing (ticks : Nat)
  | settling (ticks length : Nat)
  deriving DecidableEq, Repr

/-- The acquisition state with its target, its substep and its tick counts (R23, R31, R32). -/
inductive Acq where
  | off
  | starting (target : StartTarget) (substep : Substep)
  | standby
  | learning (ticks period : Nat)
  | armed
  | draining (target : DrainTarget)
  deriving DecidableEq, Repr

/-- The last start failure cause (R23). -/
inductive StartFailure where
  | lock
  | noLane
  deriving DecidableEq, Repr

/-! ## Hit detectors (Chapters 3 and 4) -/

/-- The open hit (the second table of section 3.1), with the marks it gathers on its path: GUARDED (R86), NO_CONTEXT (R97),
ORPHANED (R104), WF_SKIPPED (R135). -/
structure OpenHit where
  hitId : Counter
  arrival : TestTime
  peak : Nat
  peakTime : TestTime
  counts : Nat
  countsToPeak : Nat
  lastActivity : TestTime
  prevActive : Bool
  energySum : BitVec 64
  tailSum : BitVec 64
  clipped : Bool
  pressure : Nat
  pStale : Bool
  openingLevel : Nat
  role : Role
  guarded : Bool
  noContext : Bool
  orphaned : Bool
  wfSkipped : Bool
  deriving DecidableEq, Repr

/-- The machine state of a detector (section 3.1). The open hit is present in IN_HIT only. -/
inductive DetState where
  | idle
  | inHit (hit : OpenHit)
  | rearmHold
  | blocked
  deriving DecidableEq, Repr

/-- A hit detector (the first table of section 3.1). -/
structure Detector where
  machine : DetState
  rearm : Nat
  contRun : Nat
  active : ChannelEntry
  waiting : Option ChannelEntry
  thrDb : Nat
  thrCode : Nat
  noise : Option Nat
  learnSum : BitVec 48
  learnCount : Nat
  learnCover : Bool
  hitsOpened : Counter
  deriving DecidableEq, Repr

/-- The cause of a closure (R50). -/
inductive Closure where
  | normal
  | truncated
  | laneFault
  | aborted
  | clockFault
  deriving DecidableEq, Repr

/-- A closed hit as handed on (R50) with its features (R76) and the marks it has gathered. -/
structure ClosedHit where
  hitId : Counter
  channel : Channel
  role : Role
  arrival : TestTime
  closureTick : TestTime
  cause : Closure
  lastActivity : TestTime
  peak : Nat
  peakTime : TestTime
  counts : Nat
  countsToPeak : Nat
  energyRaw : BitVec 64
  clipped : Bool
  pressure : Nat
  pStale : Bool
  openingLevel : Nat
  amplitude : Nat
  duration : Nat
  rise : Nat
  energy : Nat
  guarded : Bool
  noContext : Bool
  orphaned : Bool
  wfSkipped : Bool
  deriving DecidableEq, Repr

/-! ## Event Assembler (Chapter 6) -/

/-- A member entry (section 6.2). `parked` holds the closed hit of a closed member and is absent while it is open. -/
structure Member where
  channel : Channel
  hitId : Counter
  arrival : TestTime
  dt : Nat
  parked : Option ClosedHit
  deriving DecidableEq, Repr

/-- An event context in use (the table of section 6.2): COLLECTING, or SETTLING where `settling` is true. -/
structure Context where
  settling : Bool
  first : Channel
  openTime : TestTime
  windowEnd : TestTime
  zone : Zone
  pressure : Nat
  pStale : Bool
  pMax : Nat
  partialMark : Bool
  members : List Member
  deriving DecidableEq, Repr

/-- The Event Assembler: its four contexts (none for FREE), the next event_id and the counters of R117. -/
structure Assembler where
  contexts : Vector (Option Context) 4
  nextEvent : Counter
  eventsQueued : Counter
  eventsLost : Counter
  eventsDissolved : Counter
  contextsReleased : Counter
  hitsNoContext : Counter
  deriving DecidableEq, Repr

/-- A member as an event record lists it (R109). -/
structure EventMember where
  channel : Channel
  hitId : Counter
  dt : Nat
  amplitude : Nat
  deriving DecidableEq, Repr

/-- An event record (R109). -/
structure EventRecord where
  eventId : Counter
  openTime : TestTime
  first : Channel
  zone : Zone
  pressure : Nat
  belowPeakLoad : Bool
  locClamped : Bool
  partialMark : Bool
  pStale : Bool
  c1 : Channel
  c2 : Channel
  xMm : Nat
  members : List EventMember
  deriving DecidableEq, Repr

/-! ## Load History (Chapter 7) -/

/-- The declared test phase (R123). -/
inductive Phase where
  | ramp
  | hold
  | unload
  deriving DecidableEq, Repr

/-- The load history (the table of section 7.1). -/
structure LoadHistory where
  pressure : Nat
  pMax : Nat
  phase : Phase
  holdCounts : Vector Nat 16
  deriving DecidableEq, Repr

/-- The per-interval figures of one channel (section 7.3). -/
structure IntervalFigures where
  aslSum : BitVec 48
  aslCount : Nat
  opened : Counter
  lost : Counter
  deriving DecidableEq, Repr

/-- One channel's part of an interval record (R129): ASL_db (absent for none), opened, lost. -/
structure IntervalChannel where
  aslDb : Option Nat
  opened : Counter
  lost : Counter
  deriving DecidableEq, Repr

/-- An interval record (R129). The acquisition state is held as its number (section 13.1). -/
structure IntervalRecord where
  time : TestTime
  pressure : Nat
  pStale : Bool
  pMax : Nat
  phase : Phase
  shedLevel : Nat
  acqState : Nat
  perChannel : Vector IntervalChannel 16
  eventsCompleted : Counter
  holdCounts : Vector Nat 16
  digest : Option Counter
  prevReplaced : Bool
  deriving DecidableEq, Repr

/-- The interval timer (the table of section 7.3). `period` is absent while STOPPED. `ticks` counts the ended ticks of the interval and
stands at the period while the expiry is due; the item that the table names is `IntervalTimer.tickCount`. -/
structure IntervalTimer where
  period : Option Nat
  ticks : Nat
  figures : Vector IntervalFigures 16
  eventsCompleted : Counter
  slot : Option IntervalRecord
  replaced : Counter
  deriving DecidableEq, Repr

/-! ## Waveform Store (Chapter 8) -/

/-- The state of a descriptor that is not FREE (R134). -/
inductive SegState where
  | filling
  | waitEvent
  | complete
  | sending
  deriving DecidableEq, Repr

/-- A descriptor that is not FREE (R134). Its length is the number of its samples. -/
structure Segment where
  state : SegState
  segId : Counter
  channel : Channel
  hitId : Counter
  mode : WaveMode
  firstTime : TestTime
  samples : List Sample
  capacity : Nat
  blocks : List Nat
  nextPiece : Nat
  cut : Bool
  deriving DecidableEq, Repr

/-- The Waveform Store: the pretrigger rings (newest sample first; the fill count is the length), the 64 descriptors (none for
FREE), the send list, the next seg_id and the counters of R145. -/
structure WaveStore where
  rings : Vector (List Sample) 16
  segments : Vector (Option Segment) 64
  sendList : List (Fin 64)
  nextSeg : Counter
  captured : Counter
  skipped : Counter
  discarded : Counter
  sent : Counter
  pieces : Counter
  deriving DecidableEq, Repr

/-- A waveform piece (R143). -/
structure Piece where
  segId : Counter
  channel : Channel
  hitId : Counter
  index : Nat
  firstTime : TestTime
  samples : List Sample
  last : Bool
  cut : Bool
  deriving DecidableEq, Repr

/-! ## Conditions (Chapter 12) -/

/-- The seven condition groups, in group order (section 12.1). -/
inductive Group where
  | clock
  | acq
  | lane
  | flow
  | table
  | zone
  | link
  deriving DecidableEq, Repr

/-- The 78 factor entries (section 12.1). -/
inductive Factor where
  | lockFail
  | lockLost
  | stateReached
  | startFailed
  | aborted
  | laneFault (entry : Fin 17)
  | noisy (ch : Channel)
  | continuous (ch : Channel)
  | shedChanged
  | hitLoss
  | eventLoss
  | loadDone
  | loadAbandoned
  | lockChanged
  | holdActivity (zone : Zone)
  | frameError
  | requestDropped
  deriving DecidableEq, Repr

/-- One bit for each factor entry, group by group, as the condition layout numbers them (section 13.3). -/
structure FactorBits where
  clock : BitVec 2
  acq : BitVec 3
  fault : BitVec 17
  noisy : BitVec 16
  continuous : BitVec 16
  flow : BitVec 3
  table : BitVec 3
  zone : BitVec 16
  link : BitVec 2
  deriving DecidableEq, Repr

/-- Condition Reporting: the latched factors and the enables (R194, R196). The group summaries are derived. -/
structure Conditions where
  factors : FactorBits
  enables : FactorBits
  groupEnables : BitVec 7
  deriving DecidableEq, Repr

/-- A notice (R197). `state` is the number of the state reached, for ACQ.STATE_REACHED only. -/
structure Notice where
  factor : Factor
  index : Nat
  state : Option Nat
  time : TestTime
  deriving DecidableEq, Repr

/-! ## Record Queues and uplink (Chapter 9) -/

/-- The flags of a hit record (R147). -/
structure HitFlags where
  clipped : Bool
  truncated : Bool
  laneFault : Bool
  aborted : Bool
  clockFault : Bool
  guarded : Bool
  noContext : Bool
  orphaned : Bool
  eventLost : Bool
  wfSkipped : Bool
  pStale : Bool
  deriving DecidableEq, Repr

/-- A hit record (R147) with its three optional parts. -/
structure HitRecord where
  hitId : Counter
  channel : Channel
  role : Role
  arrival : TestTime
  duration : Nat
  rise : Nat
  counts : Nat
  countsToPeak : Nat
  amplitude : Nat
  energy : Nat
  pressure : Nat
  flags : HitFlags
  eventId : Option Counter
  gap : Option Nat
  segId : Option Counter
  deriving DecidableEq, Repr

/-- A record in the Hit Queue with its entry time on the link clock (R150). -/
structure QueuedHit where
  record : HitRecord
  entryTime : Nat
  deriving DecidableEq, Repr

/-- A response code, in the order of the table of section 10.3. -/
inductive Code where
  | ok
  | already
  | badRequest
  | range
  | busy
  | state
  | locked
  | loadNone
  | loadBusy
  | invalid
  | noChannel
  deriving DecidableEq, Repr

/-- A response (R170, section 13.4): the request's tag and kind, the code, and the body's bytes, fixed when the request is
taken. -/
structure Response where
  tag : Byte
  kind : Byte
  code : Code
  body : List Byte
  deriving DecidableEq, Repr

/-- The contents of one uplink frame, from one source (R155, R201). -/
inductive UplinkFrame where
  | response (r : Response)
  | notices (ns : List Notice)
  | event (e : EventRecord)
  | hits (hs : List HitRecord)
  | interval (i : IntervalRecord)
  | waveform (p : Piece)
  deriving DecidableEq, Repr

/-- The per-channel counters of the account of R163 (but hits_opened, which its detector holds, and hits_held, which is
derived), with hits_guarded (R86) and the pending gap (R152). -/
structure ChannelCounts where
  queued : Counter
  filtered : Counter
  shed : Counter
  lost : Counter
  guarded : Counter
  gap : Nat
  deriving DecidableEq, Repr

/-- The Record Queues, the shed level, the transmitter and the held readiness report (Chapter 9). `tx` is absent while the
transmitter is IDLE and holds the frame in flight while it is SENDING. -/
structure RecordQueues where
  hits : List QueuedHit
  events : List EventRecord
  notices : List Notice
  responses : List Response
  shed : Fin 4
  counts : Vector ChannelCounts 16
  tx : Option UplinkFrame
  ready : Bool
  framesSent : Counter
  deriving DecidableEq, Repr

/-! ## Link port, interpreter, loader (Chapters 10 and 11) -/

/-- A good request (R168): kind, tag and the payload bytes after the tag. -/
structure Request where
  kind : Byte
  tag : Byte
  args : List Byte
  deriving DecidableEq, Repr

/-- The link port: the inbound request queue and the counters of R180. -/
structure LinkPort where
  inbound : List Request
  frameErrors : Counter
  dropped : Counter
  taken : Counter
  deriving DecidableEq, Repr

/-- A load in progress (section 11.2). `received` is the number of staged entries; `expiry` is the link-clock microsecond at
which the idle timer's 1 s have run. -/
structure Load where
  table : TableId
  first : Nat
  expected : Nat
  staged : List Entry
  expiry : Nat
  deriving DecidableEq, Repr

/-- The kind of the last reset (R171). -/
inductive ResetKind where
  | powerOn
  | soft
  deriving DecidableEq, Repr

/-- The state of the AX16, with the queue of the commands that wait. -/
structure State where
  synth : Synth
  tt : TestTime
  rowTT : TestTime
  now : Nat
  lanes : Vector Lane 16
  pl : PressureLane
  acq : Acq
  lastFail : Option StartFailure
  dets : Vector Detector 16
  nextHit : Option Counter
  guard : Vector Nat 16
  asm : Assembler
  hist : LoadHistory
  timer : IntervalTimer
  wave : WaveStore
  rq : RecordQueues
  link : LinkPort
  tables : Tables
  crcs : TableCrcs
  loader : Option Load
  lock : Option Counter
  cond : Conditions
  lastReset : ResetKind
  pending : List Instr
  deriving DecidableEq, Repr

/-- What stops the part with a fault: nothing does. The manual gives every command an effect in every state, and what it calls
a fault (a lane fault, a clock fault) is state, flags and factors, after which the part goes on. -/
inductive Fault where
  deriving DecidableEq, Repr

/-- Why a command has no meaning. -/
inductive Refusal where
  /-- A command that is not modelled yet, by its mnemonic. Raised by an arm of `exec` alone; safe. No arm raises it. -/
  | notModelled (mnemonic : String)
  deriving DecidableEq, Repr

/-! ## Reset values -/

/-- An acoustic lane receiver after power-on or soft reset (section 1.3, R19). -/
def Lane.reset : Lane :=
  { state := .off, lastFault := none, held := 0, goodRun := 0, syncTicks := 0, settleTicks := 0, settleLength := 0,
    framingList := [], missingRun := 0, fullRun := 0, cleanRun := 0, framingErrors := 0, faultEntries := 0,
    tickNumber := 0, declared := false }

/-- The pressure receiver after power-on or soft reset (section 1.4, R22). -/
def PressureLane.reset : PressureLane :=
  { state := .syncing, slotTicks := 0, slotFilled := false, missingRun := 0, framingErrors := 0 }

/-- A detector after power-on or soft reset, with the committed entry of its channel (R40). -/
def Detector.reset (e : ChannelEntry) : Detector :=
  { machine := .blocked, rearm := 0, contRun := 0, active := e, waiting := none, thrDb := thrDbOf e none,
    thrCode := thrCodeOf (thrDbOf e none) e.lsbNv, noise := none, learnSum := 0, learnCount := 0, learnCover := true,
    hitsOpened := 0 }

/-- The Event Assembler after power-on or soft reset (R92, R107, R116). -/
def Assembler.reset : Assembler :=
  { contexts := Vector.replicate 4 none, nextEvent := 0, eventsQueued := 0, eventsLost := 0, eventsDissolved := 0,
    contextsReleased := 0, hitsNoContext := 0 }

/-- The load history after a reset that leaves this phase (R122). -/
def LoadHistory.reset (phase : Phase) : LoadHistory :=
  { pressure := 0, pMax := 0, phase := phase, holdCounts := tabulate fun _ => 0 }

/-- Cleared per-interval figures (R128). -/
def IntervalFigures.reset : IntervalFigures := { aslSum := 0, aslCount := 0, opened := 0, lost := 0 }

/-- The interval timer after power-on or soft reset (R131). -/
def IntervalTimer.reset : IntervalTimer :=
  { period := none, ticks := 0, figures := tabulate fun _ => IntervalFigures.reset, eventsCompleted := 0, slot := none,
    replaced := 0 }

/-- The Waveform Store after power-on or soft reset (R133, R134, R145). -/
def WaveStore.reset : WaveStore :=
  { rings := tabulate fun _ => [], segments := Vector.replicate 64 none, sendList := [], nextSeg := 0, captured := 0,
    skipped := 0, discarded := 0, sent := 0, pieces := 0 }

/-- The per-channel counters after power-on or soft reset (R83, R86, R165). -/
def ChannelCounts.reset : ChannelCounts := { queued := 0, filtered := 0, shed := 0, lost := 0, guarded := 0, gap := 0 }

/-- The Record Queues after power-on reset (R155, R156, R165). -/
def RecordQueues.reset : RecordQueues :=
  { hits := [], events := [], notices := [], responses := [], shed := 0, counts := tabulate fun _ => ChannelCounts.reset,
    tx := none, ready := false, framesSent := 0 }

/-- The link port after power-on or soft reset (R168, R180). -/
def LinkPort.reset : LinkPort := { inbound := [], frameErrors := 0, dropped := 0, taken := 0 }

/-- No factor entry. -/
def FactorBits.none : FactorBits :=
  { clock := 0, acq := 0, fault := 0, noisy := 0, continuous := 0, flow := 0, table := 0, zone := 0, link := 0 }

/-- Condition Reporting after power-on reset (R195, R196). -/
def Conditions.reset : Conditions := { factors := FactorBits.none, enables := FactorBits.none, groupEnables := 0 }

/-- The AX16 right after power-on reset. -/
def State.reset : State :=
  { synth := .stopped, tt := 0, rowTT := 0, now := 0, lanes := tabulate fun _ => Lane.reset, pl := PressureLane.reset,
    acq := .off, lastFail := none, dets := tabulate fun _ => Detector.reset defaultChannel, nextHit := some 0,
    guard := tabulate fun _ => 0, asm := Assembler.reset, hist := LoadHistory.reset .ramp, timer := IntervalTimer.reset,
    wave := WaveStore.reset, rq := RecordQueues.reset, link := LinkPort.reset, tables := defaultTables,
    crcs := defaultTables.crcs, loader := none, lock := none, cond := Conditions.reset, lastReset := .powerOn,
    pending := [] }

end Sys2Proof.Machine
end

