-- ==== Sys2Proof/Machine/Flags.lean ====
section
/-! DEFINITION. Condition Reporting (Chapter 12): factor entries and enables, settings, notices, group summaries, and the
condition layout of section 13.3. -/

namespace Sys2Proof.Machine

/-- One bit of a bit vector set or cleared. -/
def setBit {w : Nat} (x : BitVec w) (k : Nat) (b : Bool) : BitVec w :=
  if b then x ||| BitVec.twoPow w k else x &&& ~~~(BitVec.twoPow w k)

/-- Section 12.1: the group of a factor. -/
def Factor.group (f : Factor) : Group :=
  match f with
  | .lockFail | .lockLost => .clock
  | .stateReached | .startFailed | .aborted => .acq
  | .laneFault _ | .noisy _ | .continuous _ => .lane
  | .shedChanged | .hitLoss | .eventLoss => .flow
  | .loadDone | .loadAbandoned | .lockChanged => .table
  | .holdActivity _ => .zone
  | .frameError | .requestDropped => .link

/-- The number of a group (section 13.3). -/
def Group.number (g : Group) : Nat :=
  match g with
  | .clock => 0
  | .acq => 1
  | .lane => 2
  | .flow => 3
  | .table => 4
  | .zone => 5
  | .link => 6

/-- The group of a number. -/
def groupOf (n : Nat) : Option Group :=
  match n with
  | 0 => some .clock
  | 1 => some .acq
  | 2 => some .lane
  | 3 => some .flow
  | 4 => some .table
  | 5 => some .zone
  | 6 => some .link
  | _ => none

/-- Section 12.1: the number of a factor within its group, in the order of the table. -/
def Factor.number (f : Factor) : Nat :=
  match f with
  | .lockFail => 0
  | .lockLost => 1
  | .stateReached => 0
  | .startFailed => 1
  | .aborted => 2
  | .laneFault _ => 0
  | .noisy _ => 1
  | .continuous _ => 2
  | .shedChanged => 0
  | .hitLoss => 1
  | .eventLoss => 2
  | .loadDone => 0
  | .loadAbandoned => 1
  | .lockChanged => 2
  | .holdActivity _ => 0
  | .frameError => 0
  | .requestDropped => 1

/-- Whether a factor entry's bit is on. -/
def FactorBits.get (b : FactorBits) (f : Factor) : Bool :=
  match f with
  | .lockFail => b.clock.getLsbD 0
  | .lockLost => b.clock.getLsbD 1
  | .stateReached => b.acq.getLsbD 0
  | .startFailed => b.acq.getLsbD 1
  | .aborted => b.acq.getLsbD 2
  | .laneFault i => b.fault.getLsbD i.val
  | .noisy ch => b.noisy.getLsbD ch.val
  | .continuous ch => b.continuous.getLsbD ch.val
  | .shedChanged => b.flow.getLsbD 0
  | .hitLoss => b.flow.getLsbD 1
  | .eventLoss => b.flow.getLsbD 2
  | .loadDone => b.table.getLsbD 0
  | .loadAbandoned => b.table.getLsbD 1
  | .lockChanged => b.table.getLsbD 2
  | .holdActivity z => b.zone.getLsbD z.val
  | .frameError => b.link.getLsbD 0
  | .requestDropped => b.link.getLsbD 1

/-- A factor entry's bit turned on (R194). -/
def FactorBits.on (b : FactorBits) (f : Factor) : FactorBits :=
  match f with
  | .lockFail => { b with clock := setBit b.clock 0 true }
  | .lockLost => { b with clock := setBit b.clock 1 true }
  | .stateReached => { b with acq := setBit b.acq 0 true }
  | .startFailed => { b with acq := setBit b.acq 1 true }
  | .aborted => { b with acq := setBit b.acq 2 true }
  | .laneFault i => { b with fault := setBit b.fault i.val true }
  | .noisy ch => { b with noisy := setBit b.noisy ch.val true }
  | .continuous ch => { b with continuous := setBit b.continuous ch.val true }
  | .shedChanged => { b with flow := setBit b.flow 0 true }
  | .hitLoss => { b with flow := setBit b.flow 1 true }
  | .eventLoss => { b with flow := setBit b.flow 2 true }
  | .loadDone => { b with table := setBit b.table 0 true }
  | .loadAbandoned => { b with table := setBit b.table 1 true }
  | .lockChanged => { b with table := setBit b.table 2 true }
  | .holdActivity z => { b with zone := setBit b.zone z.val true }
  | .frameError => { b with link := setBit b.link 0 true }
  | .requestDropped => { b with link := setBit b.link 1 true }

/-- The entries of the first set that the second does not name (R175). -/
def FactorBits.without (b m : FactorBits) : FactorBits :=
  { clock := b.clock &&& ~~~m.clock, acq := b.acq &&& ~~~m.acq, fault := b.fault &&& ~~~m.fault,
    noisy := b.noisy &&& ~~~m.noisy, continuous := b.continuous &&& ~~~m.continuous, flow := b.flow &&& ~~~m.flow,
    table := b.table &&& ~~~m.table, zone := b.zone &&& ~~~m.zone, link := b.link &&& ~~~m.link }

/-- The first set with the entries of one group taken from the second (R176). -/
def FactorBits.withGroup (b m : FactorBits) (g : Group) : FactorBits :=
  match g with
  | .clock => { b with clock := m.clock }
  | .acq => { b with acq := m.acq }
  | .lane => { b with fault := m.fault, noisy := m.noisy, continuous := m.continuous }
  | .flow => { b with flow := m.flow }
  | .table => { b with table := m.table }
  | .zone => { b with zone := m.zone }
  | .link => { b with link := m.link }

/-- R196: the summary of a group: an entry of the group is set and has its factor enable on. -/
def Conditions.summary (c : Conditions) (g : Group) : Bool :=
  match g with
  | .clock => c.factors.clock &&& c.enables.clock != 0
  | .acq => c.factors.acq &&& c.enables.acq != 0
  | .lane =>
    (c.factors.fault &&& c.enables.fault != 0) || (c.factors.noisy &&& c.enables.noisy != 0)
      || (c.factors.continuous &&& c.enables.continuous != 0)
  | .flow => c.factors.flow &&& c.enables.flow != 0
  | .table => c.factors.table &&& c.enables.table != 0
  | .zone => c.factors.zone &&& c.enables.zone != 0
  | .link => c.factors.link &&& c.enables.link != 0

/-- Whether an edge of this factor queues a notice: its factor enable and its group's enable are both on (R197). -/
def Conditions.notifies (c : Conditions) (f : Factor) : Bool :=
  c.enables.get f && c.groupEnables.getLsbD f.group.number

/-- The most notices the Notice Queue holds (section 9.1). -/
def noticeCapacity : Nat := 16

/-- R198: a built notice offered to the Notice Queue: coalesced, not queued, or queued. -/
def offerNotice (n : Notice) (s : State) : State :=
  if s.rq.notices.any fun w => w.factor == n.factor then s
  else if noticeCapacity ≤ s.rq.notices.length then s
  else { s with rq := { s.rq with notices := s.rq.notices ++ [n] } }

/-- R194: a factor entry latched. -/
def latchFactor (f : Factor) (s : State) : State :=
  { s with cond := { s.cond with factors := s.cond.factors.on f } }

/-- R194, R197: a setting of a factor entry with the value it carries. At a clear-to-set edge the entry is latched and, where
both enables are on, a notice with Test Time as it stands is offered; a setting of a set entry has no effect. -/
def setFactor (f : Factor) (index : Nat) (reached : Option Nat) (s : State) : State :=
  if s.cond.factors.get f then s
  else
    let s := latchFactor f s
    if s.cond.notifies f then offerNotice { factor := f, index := index, state := reached, time := s.tt } s else s

/-- R197: the index of a factor entry's notice where the setting carries no value: the channel, the zone, or 0. -/
def Factor.index (f : Factor) : Nat :=
  match f with
  | .laneFault i => i.val
  | .noisy ch | .continuous ch => ch.val
  | .holdActivity z => z.val
  | .lockFail | .lockLost | .stateReached | .startFailed | .aborted | .shedChanged | .hitLoss | .eventLoss | .loadDone
  | .loadAbandoned | .lockChanged | .frameError | .requestDropped => 0

/-- R194: a setting that carries no value. -/
def raise (f : Factor) (s : State) : State := setFactor f f.index none s

/-! ## The condition layout (section 13.3) -/

/-- The fifteen bytes of the condition layout. -/
def FactorBits.layout (b : FactorBits) : List Byte :=
  beBytes 1 b.clock.toNat ++ beBytes 1 b.acq.toNat
  ++ (beBytes 4 b.fault.toNat ++ beBytes 2 b.noisy.toNat ++ beBytes 2 b.continuous.toNat)
  ++ beBytes 1 b.flow.toNat ++ beBytes 1 b.table.toNat ++ beBytes 2 b.zone.toNat ++ beBytes 1 b.link.toNat

/-- The set that fifteen bytes of the condition layout name; absent where a set bit names no factor (section 13.3). -/
def factorBitsOf (bs : List Byte) : Option FactorBits :=
  let clock := fieldAt bs 0 1
  let acq := fieldAt bs 1 1
  let fault := fieldAt bs 2 4
  let flow := fieldAt bs 10 1
  let table := fieldAt bs 11 1
  let link := fieldAt bs 14 1
  if clock < 4 ∧ acq < 8 ∧ fault < 131072 ∧ flow < 8 ∧ table < 8 ∧ link < 4 then
    some
      { clock := BitVec.ofNat 2 clock, acq := BitVec.ofNat 3 acq, fault := BitVec.ofNat 17 fault,
        noisy := BitVec.ofNat 16 (fieldAt bs 6 2), continuous := BitVec.ofNat 16 (fieldAt bs 8 2),
        flow := BitVec.ofNat 3 flow, table := BitVec.ofNat 3 table, zone := BitVec.ofNat 16 (fieldAt bs 12 2),
        link := BitVec.ofNat 2 link }
  else none

/-- Section 13.3: where a group's field stands in the condition layout: offset and size. -/
def Group.layoutField (g : Group) : Nat × Nat :=
  match g with
  | .clock => (0, 1)
  | .acq => (1, 1)
  | .lane => (2, 8)
  | .flow => (10, 1)
  | .table => (11, 1)
  | .zone => (12, 2)
  | .link => (14, 1)

/-- Section 13.3: the factor enables that SET_ENABLES carries: the group's field of the layout in the low-order bytes of its
eight, absent where a bit of an unused byte is set or a set bit names no factor. -/
def enablesOf (g : Group) (bs : List Byte) : Option FactorBits :=
  let size := g.layoutField.2
  if (bs.take (8 - size)).all (· == 0) then
    factorBitsOf (List.replicate g.layoutField.1 0 ++ bs.drop (8 - size)
      ++ List.replicate (15 - g.layoutField.1 - size) 0)
  else none

/-- The seven group summaries, bit n for group n (section 13.4). -/
def Conditions.summaries (c : Conditions) : Nat :=
  flagBit (c.summary .clock) 0 + flagBit (c.summary .acq) 1 + flagBit (c.summary .lane) 2 + flagBit (c.summary .flow) 3
  + flagBit (c.summary .table) 4 + flagBit (c.summary .zone) 5 + flagBit (c.summary .link) 6

end Sys2Proof.Machine
end

