-- ==== Sys2Proof/Machine/Ops.lean ====
section
/-! DEFINITION. The named operations that every family shares: one entry of a per-channel table changed, what the blocks read
from each other, and the evaluation of the shed level (R160, R161). -/

namespace Sys2Proof.Machine

/-- A detector changed. -/
def State.modDet (s : State) (ch : Channel) (f : Detector → Detector) : State := { s with dets := upd s.dets ch f }

/-- A lane receiver changed. -/
def State.modLane (s : State) (ch : Channel) (f : Lane → Lane) : State := { s with lanes := upd s.lanes ch f }

/-- A channel's counters changed. -/
def State.modCounts (s : State) (ch : Channel) (f : ChannelCounts → ChannelCounts) : State :=
  { s with rq := { s.rq with counts := upd s.rq.counts ch f } }

/-- A channel's per-interval figures changed. -/
def State.modFigures (s : State) (ch : Channel) (f : IntervalFigures → IntervalFigures) : State :=
  { s with timer := { s.timer with figures := upd s.timer.figures ch f } }

/-- The Event Assembler changed. -/
def State.modAsm (s : State) (f : Assembler → Assembler) : State := { s with asm := f s.asm }

/-- The Waveform Store changed. -/
def State.modWave (s : State) (f : WaveStore → WaveStore) : State := { s with wave := f s.wave }

/-- One event context replaced; none is FREE. -/
def State.putContext (s : State) (k : Fin 4) (c : Option Context) : State :=
  s.modAsm fun a => { a with contexts := upd a.contexts k fun _ => c }

/-- The open hit of a detector, if it holds one. -/
def Detector.open? (d : Detector) : Option OpenHit :=
  match d.machine with
  | .inHit h => some h
  | .idle | .rearmHold | .blocked => none

/-- The open hit of a detector changed, where it holds one. -/
def Detector.modOpen (f : OpenHit → OpenHit) (d : Detector) : Detector :=
  match d.machine with
  | .inHit h => { d with machine := .inHit (f h) }
  | .idle | .rearmHold | .blocked => d

/-- The open hit of a channel changed, where there is one. -/
def State.modOpen (s : State) (ch : Channel) (f : OpenHit → OpenHit) : State := s.modDet ch (Detector.modOpen f)

/-- R21, R119: a capture of the pressure carries P_STALE while PL is STALE. -/
def State.pStale (s : State) : Bool := s.pl.state == .stale

/-- R6: ticks occur only while the synthesizer is LOCKED. -/
def State.ticking (s : State) : Bool := s.synth == .locked

/-- R20: the convert strobe is issued on the first tick of each slot. -/
def State.strobe (s : State) : Bool := s.ticking && s.pl.slotTicks == 0

/-- R134: the blocks in use. -/
def WaveStore.blocksInUse (w : WaveStore) : Nat :=
  (w.segments.toList.map fun o => match o with | none => 0 | some g => g.blocks.length).sum

/-- R134: the free block count, of 256 blocks. -/
def WaveStore.freeBlocks (w : WaveStore) : Nat := 256 - w.blocksInUse

/-- R134: the free descriptor count. -/
def WaveStore.freeDescriptors (w : WaveStore) : Nat := (w.segments.toList.filter Option.isNone).length

/-- R160: one evaluation of the shed level, from the Hit Queue occupancy `n` and the free block count `f`. -/
def shedStep (level : Fin 4) (n f : Nat) : Fin 4 :=
  match level with
  | 0 => if 128 ≤ n ∨ f < 64 then 1 else 0
  | 1 => if 192 ≤ n then 2 else if n ≤ 64 ∧ 128 ≤ f then 0 else 1
  | 2 => if 256 ≤ n then 3 else if n ≤ 128 then 1 else 2
  | 3 => if n ≤ 224 then 2 else 3

/-- R161: the shed level is evaluated; an evaluation that moves it sets FLOW.SHED_CHANGED with the new level. -/
def evalShed (s : State) : State :=
  let level := shedStep s.rq.shed s.rq.hits.length s.wave.freeBlocks
  if level = s.rq.shed then s
  else setFactor .shedChanged level.val none { s with rq := { s.rq with shed := level } }

/-- Section 13.1: the number of an acquisition state. -/
def Acq.number (a : Acq) : Nat :=
  match a with
  | .off => 0
  | .starting _ _ => 1
  | .standby => 2
  | .learning _ _ => 3
  | .armed => 4
  | .draining _ => 5

/-- Section 13.1: the number of the STARTING substep, if there is one. -/
def Acq.substepNumber (a : Acq) : Option Nat :=
  match a with
  | .starting _ .locking => some 0
  | .starting _ (.syncing _) => some 1
  | .starting _ (.settling _ _) => some 2
  | .off | .standby | .learning _ _ | .armed | .draining _ => none

/-- Section 2.1 and section 13.1: the target as an acquisition state's number, in a transient state only. -/
def Acq.targetNumber (a : Acq) : Option Nat :=
  match a with
  | .starting .standby _ => some 2
  | .starting .armed _ => some 4
  | .learning _ _ => some 4
  | .draining .standby => some 2
  | .draining .off => some 0
  | .off | .standby | .armed => none

/-- R163: the hits of a channel open in its detector. -/
def Detector.openCount (d : Detector) : Nat := if d.open?.isSome then 1 else 0

/-- The parked hits of a channel among members. -/
def parkedIn (ms : List Member) (ch : Channel) : Nat :=
  ms.countP fun m => match m.parked with | some c => c.channel == ch | none => false

/-- The parked hits of a channel in one context. -/
def parkedOf (o : Option Context) (ch : Channel) : Nat :=
  match o with
  | none => 0
  | some c => parkedIn c.members ch

/-- R163: the hits of a channel parked as closed members in contexts. -/
def Assembler.parkedCount (a : Assembler) (ch : Channel) : Nat :=
  parkedOf a.contexts[(0 : Fin 4)] ch + parkedOf a.contexts[(1 : Fin 4)] ch + parkedOf a.contexts[(2 : Fin 4)] ch
    + parkedOf a.contexts[(3 : Fin 4)] ch

/-- R163: hits_held, the hits of a channel open in its detector or parked in contexts. -/
def State.hitsHeld (s : State) (ch : Channel) : Nat := s.dets[ch].openCount + s.asm.parkedCount ch

end Sys2Proof.Machine
end

