-- ==== Sys2Proof/Machine/Waveform.lean ====
section
/-! DEFINITION. Waveform capture (Chapter 8): rings, captures, filling, the decision of a segment, freeing and pieces. -/

namespace Sys2Proof.Machine

/-- The size of a pretrigger ring (R133). -/
def ringSize : Nat := 1024

/-- R133: a LIVE sample written over the oldest word of a channel's ring. -/
def ringWrite (ch : Channel) (smp : Sample) (s : State) : State :=
  s.modWave fun w => { w with rings := upd w.rings ch fun r => (smp :: r).take ringSize }

/-- R133: the LIVE entry report sets the fill count to 0. -/
def ringClear (ch : Channel) (s : State) : State :=
  s.modWave fun w => { w with rings := upd w.rings ch fun _ => [] }

/-- The descriptors in ascending number. -/
def descriptors : List (Fin 64) := List.finRange 64

/-- Whether a descriptor holds the segment of a hit that is not yet on the send list. -/
def Segment.holds (g : Segment) (ch : Channel) (hitId : Counter) : Bool :=
  g.channel == ch && g.hitId == hitId && (g.state == .filling || g.state == .waitEvent)

/-- The descriptor of a hit's segment that is still FILLING or in WAIT_EVENT. -/
def WaveStore.find (w : WaveStore) (ch : Channel) (hitId : Counter) : Option (Fin 64) :=
  descriptors.find? fun i => match w.segments[i] with | some g => g.holds ch hitId | none => false

/-- One descriptor replaced; none is FREE. -/
def WaveStore.put (w : WaveStore) (i : Fin 64) (g : Option Segment) : WaveStore :=
  { w with segments := upd w.segments i fun _ => g }

/-- The lowest-numbered FREE descriptor (R136). -/
def WaveStore.freeDescriptor (w : WaveStore) : Option (Fin 64) :=
  descriptors.find? fun i => w.segments[i].isNone

/-- Whether a descriptor owns a block (R134). -/
def WaveStore.owns (w : WaveStore) (b : Nat) : Bool :=
  w.segments.toList.any fun o => match o with | none => false | some g => g.blocks.contains b

/-- The free blocks in ascending number (R136). -/
def WaveStore.freeBlockList (w : WaveStore) : List Nat := (List.range 256).filter fun b => !w.owns b

/-- R142: a segment freed: its blocks return, its descriptor is FREE, and the shed level is evaluated (R161). -/
def freeSegment (i : Fin 64) (s : State) : State :=
  evalShed (s.modWave fun w => { w.put i none with discarded := w.discarded + 1 })

/-- A hit's segment freed, where it holds one (R83, R140). -/
def freeSegmentOf (ch : Channel) (hitId : Counter) (s : State) : State :=
  match s.wave.find ch hitId with
  | none => s
  | some i => freeSegment i s

/-- R140: the hit leaves its context while it is open: an EVENT_ONLY segment is freed at once, one of mode ALL goes on. -/
def segmentLeavesContext (ch : Channel) (hitId : Counter) (s : State) : State :=
  match s.wave.find ch hitId with
  | none => s
  | some i =>
    match s.wave.segments[i] with
    | some g => if g.mode = .eventOnly then freeSegment i s else s
    | none => s

/-- R136: the segment that a capture sets up, with its pretrigger samples, oldest first. -/
def newSegment (w : WaveStore) (ch : Channel) (hitId : Counter) (arrival : TestTime) (e : ChannelEntry) : Segment :=
  let pretrigger := (w.rings[ch].take e.wfPre).reverse
  { state := .filling, segId := w.nextSeg, channel := ch, hitId := hitId, mode := e.wfMode,
    firstTime := arrival - BitVec.ofNat 48 pretrigger.length, samples := pretrigger, capacity := e.wfMax,
    blocks := w.freeBlockList.take (blocksFor e.wfMax), nextPiece := 0, cut := false }

/-- R135, R136: the capture decision at an opening, by the channel's active entry, the shed level, the free descriptors and the
free blocks, each as it stands at that place in the row. -/
def decideCapture (ch : Channel) (hitId : Counter) (arrival : TestTime) (s : State) : State :=
  let e := s.dets[ch].active
  if e.wfMode = .off then s
  else
    match s.wave.freeDescriptor with
    | some i =>
      if s.rq.shed = 0 ∧ blocksFor e.wfMax ≤ s.wave.freeBlocks then
        evalShed (s.modWave fun w =>
          { w.put i (some (newSegment w ch hitId arrival e)) with
            nextSeg := w.nextSeg + 1, captured := w.captured + 1 })
      else
        (s.modWave fun w => { w with skipped := w.skipped + 1 }).modOpen ch fun h => { h with wfSkipped := true }
    | none => (s.modWave fun w => { w with skipped := w.skipped + 1 }).modOpen ch fun h => { h with wfSkipped := true }

/-- R137: a sample appended while there is room; the first sample beyond the capacity cuts the segment. -/
def Segment.append (g : Segment) (smp : Sample) : Segment :=
  if g.samples.length < g.capacity then { g with samples := g.samples ++ [smp] } else { g with cut := true }

/-- R137: the segment of an open hit takes the sample that the detector takes in IN_HIT. -/
def segmentFill (ch : Channel) (hitId : Counter) (smp : Sample) (s : State) : State :=
  match s.wave.find ch hitId with
  | none => s
  | some i =>
    match s.wave.segments[i] with
    | some g => if g.state = .filling then s.modWave fun w => w.put i (some (g.append smp)) else s
    | none => s

/-- R138: at the closure the segment keeps the blocks its samples fill and returns the others; a return is a change of the free
block count and is evaluated (R161). -/
def segmentFillEnd (ch : Channel) (hitId : Counter) (s : State) : State :=
  match s.wave.find ch hitId with
  | none => s
  | some i =>
    match s.wave.segments[i] with
    | some g =>
      let keep := blocksFor g.samples.length
      if keep < g.blocks.length then
        evalShed (s.modWave fun w => w.put i (some { g with blocks := g.blocks.take keep }))
      else s
    | none => s

/-- R138: the closed hit is parked in a context, and its segment waits on the event. -/
def segmentWait (ch : Channel) (hitId : Counter) (s : State) : State :=
  match s.wave.find ch hitId with
  | none => s
  | some i =>
    match s.wave.segments[i] with
    | some g => s.modWave fun w => w.put i (some { g with state := .waitEvent })
    | none => s

/-- R139, R143: a segment becomes COMPLETE and joins the tail of the send list. -/
def segmentComplete (i : Fin 64) (g : Segment) (s : State) : State :=
  s.modWave fun w => { w.put i (some { g with state := .complete }) with sendList := w.sendList ++ [i] }

/-- How a hit record that is admitted reaches the Record Queues, which decides its segment: standalone (R139) or as a member of a
queued event (R141). -/
inductive Path where
  | standalone
  | member
  deriving DecidableEq, Repr

/-- R139, R141: whether an admitted record's segment of this mode becomes COMPLETE. -/
def Path.completes (p : Path) (m : WaveMode) : Bool :=
  match p with
  | .member => true
  | .standalone => m == .all

/-- R139, R141: the segment of an admitted record is decided: COMPLETE with its seg_id, or freed. -/
def segmentAdmitted (p : Path) (ch : Channel) (hitId : Counter) (s : State) : State × Option Counter :=
  match s.wave.find ch hitId with
  | none => (s, none)
  | some i =>
    match s.wave.segments[i] with
    | some g => if p.completes g.mode then (segmentComplete i g s, some g.segId) else (freeSegment i s, none)
    | none => (s, none)

/-- R143: the next piece of a segment. -/
def Segment.piece (g : Segment) : Piece :=
  { segId := g.segId, channel := g.channel, hitId := g.hitId, index := g.nextPiece,
    firstTime := g.firstTime + BitVec.ofNat 48 (256 * g.nextPiece),
    samples := (g.samples.drop (256 * g.nextPiece)).take 256,
    last := decide (blocksFor g.samples.length ≤ g.nextPiece + 1), cut := g.cut }

/-- R144: the store after a frame start has taken the next piece of the segment at the head of the send list. -/
def WaveStore.takePiece (w : WaveStore) (i : Fin 64) (g : Segment) : WaveStore :=
  if g.piece.last then
    { w.put i none with sendList := w.sendList.tail, sent := w.sent + 1, pieces := w.pieces + 1 }
  else
    { w.put i (some { g with state := .sending, blocks := g.blocks.tail, nextPiece := g.nextPiece + 1 }) with
      pieces := w.pieces + 1 }

end Sys2Proof.Machine
end

