-- ==== Sys2Proof/Machine/Records.lean ====
section
/-! DEFINITION. Hit records and the Hit Queue (section 9.2): a closed hit that is offered is shed, lost or admitted. -/

namespace Sys2Proof.Machine

/-- The most records the Hit Queue holds (section 9.1). -/
def hitCapacity : Nat := 256

/-- The most records the Event Queue holds (section 9.1). -/
def eventCapacity : Nat := 32

/-- The limit at which a pending gap holds (R152). -/
def gapLimit : Nat := 4294967295

/-- What a closed hit carries from its way out of the Event Assembler: the event_id and the EVENT_LOST flag (R110, R111). -/
structure EventTag where
  eventId : Option Counter
  lost : Bool
  deriving DecidableEq, Repr

/-- A hit of no event. -/
def EventTag.none : EventTag := { eventId := .none, lost := false }

/-- R147: the flags of a closed hit's record. -/
def flagsOf (c : ClosedHit) (t : EventTag) : HitFlags :=
  { clipped := c.clipped, truncated := c.cause == .truncated, laneFault := c.cause == .laneFault,
    aborted := c.cause == .aborted, clockFault := c.cause == .clockFault, guarded := c.guarded,
    noContext := c.noContext, orphaned := c.orphaned, eventLost := t.lost, wfSkipped := c.wfSkipped,
    pStale := c.pStale }

/-- R147: the hit record of a closed hit with its optional parts. -/
def recordOf (c : ClosedHit) (t : EventTag) (gap : Option Nat) (seg : Option Counter) : HitRecord :=
  { hitId := c.hitId, channel := c.channel, role := c.role, arrival := c.arrival, duration := c.duration,
    rise := c.rise, counts := c.counts, countsToPeak := c.countsToPeak, amplitude := c.amplitude, energy := c.energy,
    pressure := c.pressure, flags := flagsOf c t, eventId := t.eventId, gap := gap, segId := seg }

/-- R149: a record shed: it is counted on its channel and its segment is freed. -/
def shedRecord (c : ClosedHit) (s : State) : State :=
  freeSegmentOf c.channel c.hitId (s.modCounts c.channel fun k => { k with shed := k.shed + 1 })

/-- R151, R152: a record lost at a full Hit Queue. -/
def loseRecord (c : ClosedHit) (s : State) : State :=
  let s := s.modCounts c.channel fun k => { k with lost := k.lost + 1, gap := min (k.gap + 1) gapLimit }
  let s := s.modFigures c.channel fun g => { g with lost := g.lost + 1 }
  raise .hitLoss (freeSegmentOf c.channel c.hitId s)

/-- R150: the pending gap that a record takes as its gap field. -/
def gapField (gap : Nat) : Option Nat := if gap = 0 then none else some gap

/-- R150: a record joins the tail of the Hit Queue with its entry time. -/
def enqueueHit (r : HitRecord) (s : State) : State :=
  { s with rq := { s.rq with hits := s.rq.hits ++ [{ record := r, entryTime := s.now }] } }

/-- R150: a record admitted: the gap is taken, the segment is decided, the record enters the queue, its channel's hits_queued
advances, and the shed level is evaluated. -/
def admitRecord (p : Path) (c : ClosedHit) (t : EventTag) (s : State) : State :=
  let gap := s.rq.counts[c.channel].gap
  let s := s.modCounts c.channel fun k => { k with gap := 0 }
  let decided := segmentAdmitted p c.channel c.hitId s
  let s := enqueueHit (recordOf c t (gapField gap) decided.2) decided.1
  evalShed (s.modCounts c.channel fun k => { k with queued := k.queued + 1 })

/-- R148, step 1: whether a standalone record is shed by the floor. -/
def floorSheds (c : ClosedHit) (s : State) : Bool :=
  decide (2 ≤ s.rq.shed.val) && c.role == .data && decide (c.amplitude < s.tables.setup.shedFloorDb)

/-- R148: a standalone record is shed, lost or admitted. -/
def offerStandalone (t : EventTag) (c : ClosedHit) (s : State) : State :=
  if floorSheds c s then shedRecord c s
  else if hitCapacity ≤ s.rq.hits.length then loseRecord c s
  else admitRecord .standalone c t s

/-- R110: a member of a queued event is handed to the Hit Queue. At shed level 0 or 1 it always finds room; a queue that is full
all the same loses it under R151. -/
def offerMember (eventId : Counter) (c : ClosedHit) (s : State) : State :=
  if hitCapacity ≤ s.rq.hits.length then loseRecord c s
  else admitRecord .member c { eventId := some eventId, lost := false } s

end Sys2Proof.Machine
end

