-- ==== Sys2Proof/Machine/Assembler.lean ====
section
/-! DEFINITION. The Event Assembler (Chapter 6): offers, parking, removal, release, dissolution, completion, expiry. -/

namespace Sys2Proof.Machine

/-- The contexts in ascending number. -/
def contextNumbers : List (Fin 4) := [0, 1, 2, 3]

/-- Whether a member is the open hit of a channel with this hit_id. -/
def Member.isOpenHit (ch : Channel) (hitId : Counter) (m : Member) : Bool :=
  m.parked.isNone && m.channel == ch && m.hitId == hitId

/-- Section 6.2: a member is closed when its hit is parked. -/
def Member.closed (m : Member) : Bool := m.parked.isSome

/-- The parked hits of a context in rank order. -/
def Context.parkedHits (c : Context) : List ClosedHit := c.members.filterMap Member.parked

/-- R82: the context of which the opening of a hit is at this moment a member. -/
def Assembler.memberOf (a : Assembler) (ch : Channel) (hitId : Counter) : Option (Fin 4) :=
  contextNumbers.find? fun k =>
    match a.contexts[k] with
    | none => false
    | some c => c.members.any (Member.isOpenHit ch hitId)

/-- The member list with one open member's hit parked (R101). -/
def parkIn (ch : Channel) (hitId : Counter) (hit : ClosedHit) : List Member → List Member
  | [] => []
  | m :: ms => if m.isOpenHit ch hitId then { m with parked := some hit } :: ms else m :: parkIn ch hitId hit ms

/-- The member list with one open member removed; later ranks move up (R93, R102). -/
def removeIn (ch : Channel) (hitId : Counter) : List Member → List Member
  | [] => []
  | m :: ms => if m.isOpenHit ch hitId then ms else m :: removeIn ch hitId ms

/-! ## Leaving a context -/

/-- The open hit of a member marked ORPHANED (R104). -/
def markOrphaned (ch : Channel) (hitId : Counter) (s : State) : State :=
  s.modOpen ch fun h => if h.hitId = hitId then { h with orphaned := true } else h

/-- R104, R115: the mark that a parked hit carries out of a dissolved context. A hit closed at the entry to OFF that dissolves it
carries its own flag and no ORPHANED. -/
def orphan (c : ClosedHit) : ClosedHit :=
  match c.cause with
  | .aborted | .clockFault => c
  | .normal | .truncated | .laneFault => { c with orphaned := true }

/-- R104: what a dissolution does with an open member. -/
def dissolveOpen (m : Member) (s : State) : State :=
  match m.parked with
  | some _ => s
  | none => segmentLeavesContext m.channel m.hitId (markOrphaned m.channel m.hitId s)

/-- R104, R115: a context with these remaining members dissolves: it is FREE, its parked hits go out as standalone hits in rank
order, and its open members are marked ORPHANED. Every parked hit is offered before the Waveform Store is told of the open members
(log 34). -/
def dissolve (k : Fin 4) (members : List Member) (s : State) : State :=
  let s := s.putContext k none
  let s := if members.isEmpty then s else s.modAsm fun a => { a with eventsDissolved := a.eventsDissolved + 1 }
  let s := (members.filterMap Member.parked).foldl (fun s c => offerStandalone EventTag.none (orphan c) s) s
  members.foldl (fun s m => dissolveOpen m s) s

/-- R100: what a release does with the member. -/
def releaseMember (m : Member) (s : State) : State :=
  match m.parked with
  | some c => offerStandalone EventTag.none c s
  | none => segmentLeavesContext m.channel m.hitId s

/-- R100: a context with one member at its expiry is released. -/
def release (k : Fin 4) (c : Context) (s : State) : State :=
  let s := (s.putContext k none).modAsm fun a => { a with contextsReleased := a.contextsReleased + 1 }
  c.members.foldl (fun s m => releaseMember m s) s

/-! ## Completion (section 6.6) -/

/-- R108: x_mm and LOC_CLAMPED from the distance, the velocity and the delay of rank 2. -/
def locate (distance velocity dt : Nat) : Nat × Bool :=
  if 2000 * distance < velocity * dt then (0, true) else ((2000 * distance - velocity * dt + 2000) / 4000, false)

/-- The distance between the channels of ranks 1 and 2 (R108). -/
def distanceOf (t : Tables) (a b : Channel) : Nat :=
  match t.pairOf a b with
  | some p => p.distanceMm
  | none => Config.unpairedDistance a b

/-- R109: BELOW_PEAK_LOAD, compared on signed values. -/
def belowPeakLoad (pressure pMax margin : Nat) : Bool := decide ((pressure : Int) < (pMax : Int) - (margin : Int))

/-- R109: a member as an event record lists it, with the amplitude of its parked hit. -/
def eventMember (m : Member) : Option EventMember :=
  m.parked.map fun c => { channel := m.channel, hitId := m.hitId, dt := m.dt, amplitude := c.amplitude }

/-- R109: the event record of a context whose ranks 1 and 2 are `m1` and `m2`. -/
def eventRecordOf (t : Tables) (eventId : Counter) (c : Context) (m1 m2 : Member) : EventRecord :=
  let x := locate (distanceOf t m1.channel m2.channel) t.setup.velocity m2.dt
  { eventId := eventId, openTime := c.openTime, first := c.first, zone := c.zone, pressure := c.pressure,
    belowPeakLoad := belowPeakLoad c.pressure c.pMax t.setup.loadMarginKpa, locClamped := x.2,
    partialMark := c.partialMark, pStale := c.pStale, c1 := m1.channel, c2 := m2.channel, xMm := x.1,
    members := c.members.filterMap eventMember }

/-- The limit at which a hold count holds (R112). -/
def holdLimitMax : Nat := 65535

/-- R112, R124: the zone rule for a queued completion. -/
def zoneRule (z : Zone) (s : State) : State :=
  let count := s.hist.holdCounts[z]
  if s.hist.phase = .hold ∧ count < holdLimitMax then
    let s := { s with hist := { s.hist with holdCounts := upd s.hist.holdCounts z fun n => n + 1 } }
    if count + 1 = s.tables.zone[z] then raise (.holdActivity z) s else s
  else s

/-- R110: the members of a queued event handed on at the shed level read at its start. -/
def handMembers (eventId : Counter) (hits : List ClosedHit) (s : State) : State :=
  if s.rq.shed.val < 2 then hits.foldl (fun s c => offerMember eventId c s) s
  else hits.foldl (fun s c => shedRecord c s) s

/-- R110, R112: the completed event is queued. -/
def queueEvent (r : EventRecord) (hits : List ClosedHit) (s : State) : State :=
  let s := { s with rq := { s.rq with events := s.rq.events ++ [r] } }
  let s := s.modAsm fun a => { a with eventsQueued := a.eventsQueued + 1 }
  let s := handMembers r.eventId hits s
  zoneRule r.zone { s with timer := { s.timer with eventsCompleted := s.timer.eventsCompleted + 1 } }

/-- R111: the completed event is lost at a full Event Queue. -/
def loseEvent (eventId : Counter) (hits : List ClosedHit) (s : State) : State :=
  let s := raise .eventLoss (s.modAsm fun a => { a with eventsLost := a.eventsLost + 1 })
  hits.foldl (fun s c => offerStandalone { eventId := some eventId, lost := true } c s) s

/-- R106, R107, R113: a completion. -/
def complete (k : Fin 4) (c : Context) (m1 m2 : Member) (s : State) : State :=
  let eventId := s.asm.nextEvent
  let record := eventRecordOf s.tables eventId c m1 m2
  let s := (s.putContext k none).modAsm fun a => { a with nextEvent := a.nextEvent + 1 }
  if s.rq.events.length < eventCapacity then queueEvent record c.parkedHits s
  else loseEvent eventId c.parkedHits s

/-- R106: the completion test of a SETTLING context: two or more members, every one closed. Otherwise it stays as it is. -/
def testComplete (k : Fin 4) (c : Context) (s : State) : State :=
  match c.members with
  | m1 :: m2 :: _ => if c.members.all Member.closed then complete k c m1 m2 s else s.putContext k (some c)
  | _ => s.putContext k (some c)

/-! ## Members that close (section 6.5) -/

/-- R101, R105, R114: a passed member closure is parked. A context that is SETTLING is tested for completion, but not at a closure
of an entry to OFF. -/
def parkMember (k : Fin 4) (c : Context) (hit : ClosedHit) (s : State) : State :=
  let s := segmentWait hit.channel hit.hitId s
  let c := { c with members := parkIn hit.channel hit.hitId hit c.members
                    partialMark := c.partialMark || hit.cause == .laneFault }
  match hit.cause with
  | .aborted | .clockFault => s.putContext k (some c)
  | .normal | .truncated | .laneFault => if c.settling then testComplete k c s else s.putContext k (some c)

/-- R102, R103: a rejected member closure removes the member. -/
def removeMember (k : Fin 4) (c : Context) (ch : Channel) (hitId : Counter) (s : State) : State :=
  let rest := removeIn ch hitId c.members
  if ch = c.first then dissolve k rest s
  else if c.settling then
    if rest.length ≤ 1 then dissolve k rest s else testComplete k { c with members := rest } s
  else s.putContext k (some { c with members := rest })

/-! ## Offers (section 6.3) -/

/-- R95: the four conditions under which an opening joins a context. -/
def Context.admits (c : Context) (t : Tables) (j : Channel) (time : TestTime) : Bool :=
  !c.settling
  && (match t.pairOf c.first j with | some p => decide (ticksBetween time c.openTime ≤ p.dtMax) | none => false)
  && decide (ticksBetween time c.openTime ≤ ticksBetween c.windowEnd c.openTime)
  && c.members.all fun m => m.channel != j

/-- The context of two candidates that comes first in R95's order: ascending open_time, then ascending number. -/
def earlier (a b : Fin 4 × Context) : Fin 4 × Context :=
  if b.2.openTime.toNat < a.2.openTime.toNat then b else a

/-- The first of a list of candidates in R95's order, the list being in ascending number. -/
def earliest : List (Fin 4 × Context) → Option (Fin 4 × Context)
  | [] => none
  | a :: as => some (as.foldl earlier a)

/-- The contexts in use that satisfy a test, in ascending number. -/
def Assembler.select (a : Assembler) (p : Context → Bool) : List (Fin 4 × Context) :=
  contextNumbers.filterMap fun k =>
    match a.contexts[k] with
    | some c => if p c then some (k, c) else none
    | none => none

/-- The lowest-numbered FREE context (R96). -/
def Assembler.freeContext (a : Assembler) : Option (Fin 4) := contextNumbers.find? fun k => a.contexts[k].isNone

/-- R95: the joining opening is appended as the last member. -/
def joinContext (c : Context) (j : Channel) (h : OpenHit) : Context :=
  { c with members := c.members ++ [{ channel := j, hitId := h.hitId, arrival := h.arrival,
                                      dt := ticksBetween h.arrival c.openTime, parked := none }] }

/-- R96: a context opens with the opening as its first member. -/
def openContext (s : State) (j : Channel) (h : OpenHit) : Context :=
  { settling := false, first := j, openTime := h.arrival,
    windowEnd := h.arrival + BitVec.ofNat 48 (s.tables.reach j), zone := s.dets[j].active.zone,
    pressure := h.pressure, pStale := h.pStale, pMax := s.hist.pMax, partialMark := false,
    members := [{ channel := j, hitId := h.hitId, arrival := h.arrival, dt := 0, parked := none }] }

/-- R94 to R97: an opening offered to the assembler joins a context, opens one, or stays unassociated. -/
def offerOpening (j : Channel) (h : OpenHit) (s : State) : State :=
  match earliest (s.asm.select fun c => c.admits s.tables j h.arrival) with
  | some (k, c) => s.putContext k (some (joinContext c j h))
  | none =>
    if s.tables.hasPair j then
      match s.asm.freeContext with
      | some k => s.putContext k (some (openContext s j h))
      | none =>
        (s.modAsm fun a => { a with hitsNoContext := a.hitsNoContext + 1 }).modOpen j fun h => { h with noContext := true }
    else s

/-! ## Window expiry (section 6.4) -/

/-- R99: the window of a COLLECTING context has ended at the start of the tick that `tick` stamps. -/
def Context.windowEnded (c : Context) (tick : TestTime) : Bool :=
  !c.settling && decide (ticksBetween c.windowEnd c.openTime < ticksBetween tick c.openTime)

/-- R99: a context whose window has ended, judged by its members at that moment. -/
def judgeExpired (k : Fin 4) (s : State) : State :=
  match s.asm.contexts[k] with
  | none => s
  | some c => if c.members.length ≤ 1 then release k c s else testComplete k c s

/-- One candidate put into a list that ascends in open_time, behind those of equal open_time. -/
def insertByTime (a : Fin 4 × Context) : List (Fin 4 × Context) → List (Fin 4 × Context)
  | [] => [a]
  | b :: bs => if a.2.openTime.toNat < b.2.openTime.toNat then a :: b :: bs else b :: insertByTime a bs

/-- R99: the order in which contexts that expire at one tick are judged. -/
def byTime (l : List (Fin 4 × Context)) : List (Fin 4 × Context) := l.foldl (fun acc a => insertByTime a acc) []

/-- R99: every window that has ended expires: the contexts become SETTLING and are judged in ascending open_time. -/
def expireWindows (s : State) : State :=
  let due := byTime (s.asm.select fun c => c.windowEnded s.tt)
  let s := due.foldl (fun s a => s.putContext a.1 (some { a.2 with settling := true })) s
  due.foldl (fun s a => judgeExpired a.1 s) s

/-- R115: at an entry to OFF with reason "abort" or "clock" every context in use dissolves, in ascending number. -/
def dissolveAll (s : State) : State :=
  contextNumbers.foldl (fun s k => match s.asm.contexts[k] with | some c => dissolve k c.members s | none => s) s

end Sys2Proof.Machine
end

