-- ==== Sys2Proof/Machine/Lanes.lean ====
section
/-! DEFINITION. The acoustic lane receiver (section 1.3): its entries to OFF, SYNCING, SETTLING, LIVE and FAULTED, and what it
does with the word of one tick. -/

namespace Sys2Proof.Machine

/-- R10: entry to OFF clears the runs and counts, the framing-error list and the fault cause. -/
def Lane.toOff (l : Lane) : Lane :=
  { l with state := .off, goodRun := 0, syncTicks := 0, settleTicks := 0, settleLength := 0, framingList := [],
           missingRun := 0, fullRun := 0, cleanRun := 0 }

/-- R11: entry to SYNCING. -/
def Lane.toSyncing (l : Lane) : Lane :=
  { l with state := .syncing, goodRun := 0, syncTicks := 0, framingList := [], missingRun := 0, fullRun := 0, cleanRun := 0 }

/-- R12: entry to SETTLING, for settle_ms × 2000 ticks; word sync has been declared (R31). -/
def Lane.toSettling (settleMs : Nat) (l : Lane) : Lane :=
  { l with state := .settling, settleTicks := 0, settleLength := settleMs * 2000, declared := true }

/-- R12, R18: the lane is LIVE from the next tick. -/
def Lane.toLive (l : Lane) : Lane := { l with state := .live false }

/-- R17, R18: entry to FAULTED. -/
def Lane.toFaulted (cause : LaneCause) (l : Lane) : Lane :=
  { l with state := .faulted cause, lastFault := some cause, faultEntries := l.faultEntries + 1, cleanRun := 0 }

/-- R9: the receiver is word-synced in SETTLING, LIVE and FAULTED(STUCK). -/
def Lane.wordSynced (l : Lane) : Bool :=
  match l.state with
  | .settling | .live _ | .faulted .stuck => true
  | .off | .syncing | .faulted .noSync | .faulted .framing | .faulted .silent => false

/-- Whether a lane is LIVE. -/
def Lane.isLive (l : Lane) : Bool :=
  match l.state with
  | .live _ => true
  | .off | .syncing | .settling | .faulted _ => false

/-- What a receiver makes of one tick: its state, the sample that it delivers to its consumers (R13), whether it reported its LIVE
entry, and the cause if it entered FAULTED. -/
structure LaneTick where
  lane : Lane
  delivered : Option Sample
  entered : Bool
  fault : Option LaneCause
  deriving DecidableEq, Repr

/-- A tick that delivers nothing to the consumers. -/
def LaneTick.silent (l : Lane) : LaneTick := { lane := l, delivered := none, entered := false, fault := none }

/-- A tick that enters FAULTED (R17). -/
def LaneTick.faulted (cause : LaneCause) (l : Lane) : LaneTick :=
  { lane := l.toFaulted cause, delivered := none, entered := false, fault := some cause }

/-- The longest good-word run (R11). -/
def goodRunLength : Nat := 8

/-- R11: one tick in SYNCING. A lane that declares word sync is SETTLING at the end of that tick already, and its settle_ms is the one in
force there (log 36). -/
def Lane.syncTick (settleMs : Nat) (w : LaneWord) (l : Lane) : Lane :=
  let l := { l with syncTicks := l.syncTicks + 1 }
  match w with
  | .wellFormed s =>
    let l := { l with held := s, goodRun := l.goodRun + 1 }
    if goodRunLength ≤ l.goodRun then l.toSettling settleMs else l
  | .malformed | .missing => { l with goodRun := 0 }

/-- R14, step 1: the framing-error list with the entries of age 1000 or more gone. -/
def recentErrors (t : BitVec 48) (es : List (BitVec 48)) : List (BitVec 48) :=
  es.filter fun e => (t - e).toNat < 1000

/-- R14: a framing error at receiver tick `t`, and whether it is the eighth of the span. -/
def Lane.framingError (l : Lane) : Lane × Bool :=
  let recent := recentErrors l.tickNumber l.framingList
  let l := { l with framingErrors := l.framingErrors + 1 }
  if 7 ≤ recent.length then ({ l with framingList := recent }, true)
  else ({ l with framingList := recent ++ [l.tickNumber] }, false)

/-- R9, R14, R15, R17: the receiver judges presence, then form. It answers the delivered sample, or the fault reached first. -/
def Lane.judgeWord (w : LaneWord) (l : Lane) : Lane × Sample × Option LaneCause :=
  match w with
  | .wellFormed s => ({ l with held := s, missingRun := 0 }, s, none)
  | .malformed =>
    let r := ({ l with missingRun := 0 } : Lane).framingError
    (r.1, l.held, if r.2 then some .framing else none)
  | .missing =>
    let l := { l with missingRun := l.missingRun + 1 }
    (l, l.held, if 4 ≤ l.missingRun then some .silent else none)

/-- The run of full-scale samples that faults a lane, and the clean run that restores it (R16, R18). -/
def stuckRun : Nat := 2000

/-- R16: the full-scale run after a delivered sample. -/
def Lane.countFullScale (smp : Sample) (l : Lane) : Lane :=
  { l with fullRun := if fullScale smp then l.fullRun + 1 else 0 }

/-- R12, R14 to R17: one tick in SETTLING. -/
def Lane.settleTick (w : LaneWord) (l : Lane) : LaneTick :=
  let r := l.judgeWord w
  match r.2.2 with
  | some cause => LaneTick.faulted cause r.1
  | none =>
    let l := r.1.countFullScale r.2.1
    if stuckRun ≤ l.fullRun then LaneTick.faulted .stuck l
    else LaneTick.silent { l with settleTicks := l.settleTicks + 1 }

/-- R13 to R17: one tick in LIVE; the first of them reports the LIVE entry. -/
def Lane.liveTick (reported : Bool) (w : LaneWord) (l : Lane) : LaneTick :=
  let r := l.judgeWord w
  match r.2.2 with
  | some cause => { LaneTick.faulted cause r.1 with entered := !reported }
  | none =>
    let l := r.1.countFullScale r.2.1
    if stuckRun ≤ l.fullRun then { LaneTick.faulted .stuck l with entered := !reported }
    else { lane := { l with state := .live true }, delivered := some r.2.1, entered := !reported, fault := none }

/-- R18: one tick in FAULTED(STUCK). The lane is in that state still after the tick on which its clean run reaches 2000. -/
def Lane.stuckTick (w : LaneWord) (l : Lane) : LaneTick :=
  let r := l.judgeWord w
  match r.2.2 with
  | some cause => LaneTick.faulted cause r.1
  | none =>
    LaneTick.silent { r.1 with cleanRun := if fullScale r.2.1 then 0 else r.1.cleanRun + 1 }

/-- R17, R18: what the start of a tick makes of a lane in FAULTED. With cause NO_SYNC, FRAMING or SILENT it enters SYNCING. With cause
STUCK and a clean run of 2000 it is LIVE from this tick, with a full-scale run of 0. -/
def Lane.beginTick (l : Lane) : Lane :=
  match l.state with
  | .faulted .stuck => if stuckRun ≤ l.cleanRun then { l.toLive with fullRun := 0 } else l
  | .faulted .noSync | .faulted .framing | .faulted .silent => l.toSyncing
  | .off | .syncing | .settling | .live _ => l

/-- One tick of a receiver by its state, after the start of the tick. -/
def Lane.stateTick (settleMs : Nat) (w : LaneWord) (l : Lane) : LaneTick :=
  match l.state with
  | .off => LaneTick.silent l
  | .syncing => LaneTick.silent (l.syncTick settleMs w)
  | .settling => l.settleTick w
  | .live reported => l.liveTick reported w
  | .faulted .stuck => l.stuckTick w
  | .faulted .noSync | .faulted .framing | .faulted .silent => LaneTick.silent l

/-- Section 1.3: the receiver's own tick number advances on every tick. -/
def Lane.countTick (l : Lane) : Lane := { l with tickNumber := l.tickNumber + 1 }

/-- R9 to R18: what a receiver makes of one tick. -/
def Lane.tick (settleMs : Nat) (w : LaneWord) (l : Lane) : LaneTick :=
  let r := l.beginTick.stateTick settleMs w
  { r with lane := r.lane.countTick }

/-- R11: the ticks of the sync search. -/
def syncSearchTicks : Nat := 4000

/-- R11: LANE_SYNC_TIMEOUT is due: word sync was not declared on any of the 4000 ticks. -/
def Lane.syncDue (l : Lane) : Bool := l.state == .syncing && decide (syncSearchTicks ≤ l.syncTicks)

/-- R12: LANE_SETTLE_END is due: the last tick of SETTLING has ended. -/
def Lane.settleDue (l : Lane) : Bool := l.state == .settling && decide (l.settleLength ≤ l.settleTicks)

end Sys2Proof.Machine
end

