-- ==== Sys2Proof/Machine/Detector.lean ====
section
/-! DEFINITION. The hit detectors (Chapter 3), the features of a closed hit (Chapter 4), the acceptance filters and the guard
channels (Chapter 5). -/

namespace Sys2Proof.Machine

/-! ## Entries applied to a detector -/

/-- R41: the effective threshold recomputed from the active entry and the learned noise. -/
def Detector.rethreshold (d : Detector) : Detector :=
  { d with thrDb := thrDbOf d.active d.noise, thrCode := thrCodeOf (thrDbOf d.active d.noise) d.active.lsbNv }

/-- R58: an entry becomes the active entry, and the thresholds are recomputed. -/
def Detector.withEntry (e : ChannelEntry) (d : Detector) : Detector :=
  ({ d with active := e, waiting := none } : Detector).rethreshold

/-- R53: a detector that holds no open hit enters BLOCKED. -/
def Detector.block (d : Detector) : Detector :=
  match d.machine with
  | .inHit _ => d
  | .idle | .rearmHold | .blocked => { d with machine := .blocked }

/-- R10, R58: what an applied entry makes of its lane. -/
def Lane.follow (enabled : Bool) (acq : Acq) (ticking : Bool) (l : Lane) : Lane :=
  if enabled then if ticking && acq != .off && l.state == .off then l.toSyncing else l
  else l.toOff

/-- R58: an entry applied: it is active, the thresholds are recomputed, the lane follows the enabled flag, and a detector whose
lane is sent to OFF is BLOCKED. -/
def applyEntry (ch : Channel) (e : ChannelEntry) (s : State) : State :=
  let s := s.modDet ch (Detector.withEntry e)
  let s := s.modLane ch (Lane.follow e.enabled s.acq s.ticking)
  if e.enabled then s else s.modDet ch Detector.block

/-- R57: the waiting entry of a channel, if there is one, applied. -/
def applyWaiting (ch : Channel) (s : State) : State :=
  match s.dets[ch].waiting with
  | some e => applyEntry ch e s
  | none => s

/-- R53: a detector that holds no open hit enters BLOCKED and applies a waiting entry there. -/
def blockDetector (ch : Channel) (s : State) : State :=
  match s.dets[ch].machine with
  | .inHit _ => s
  | .idle | .rearmHold | .blocked => applyWaiting ch (s.modDet ch Detector.block)

/-! ## Features of a closed hit -/

/-- The limit of a reported energy (R73). -/
def energyLimit : Nat := 4294967295

/-- R73: the energy of a closed hit. -/
def energyOf (raw : BitVec 64) (shift : Nat) : Nat := min (raw.toNat / 2 ^ shift) energyLimit

/-- R50, R76: the closed hit that a detector hands on, with its features. -/
def closedHitOf (ch : Channel) (e : ChannelEntry) (tick : TestTime) (cause : Closure) (h : OpenHit) : ClosedHit :=
  { hitId := h.hitId, channel := ch, role := h.role, arrival := h.arrival, closureTick := tick, cause := cause,
    lastActivity := h.lastActivity, peak := h.peak, peakTime := h.peakTime, counts := h.counts,
    countsToPeak := h.countsToPeak, energyRaw := h.energySum, clipped := h.clipped, pressure := h.pressure,
    pStale := h.pStale, openingLevel := h.openingLevel, amplitude := max (ladderLevel h.peak e.lsbNv) h.openingLevel,
    duration := ticksBetween h.lastActivity h.arrival, rise := ticksBetween h.peakTime h.arrival,
    energy := energyOf h.energySum e.energyShift, guarded := h.guarded, noContext := h.noContext,
    orphaned := h.orphaned, wfSkipped := h.wfSkipped }

/-! ## Acceptance filters -/

/-- R80: the value of a feature. -/
def ClosedHit.featureValue (c : ClosedHit) (f : Feature) : Nat :=
  match f with
  | .amplitude => c.amplitude
  | .duration => c.duration
  | .counts => c.counts
  | .rise => c.rise
  | .energy => c.energy

/-- R80: the rule applies to the hit and rejects it. -/
def FilterRule.rejects (r : FilterRule) (c : ClosedHit) : Bool :=
  let v := c.featureValue r.feature
  let inside := decide (r.low ≤ v ∧ v ≤ r.high)
  r.active && r.channelMask.getLsbD c.channel.val
  && (match r.action with | .rejectInside => inside | .rejectOutside => !inside)

/-- R79: whether the filters judge a closure of this cause. -/
def Closure.judged (c : Closure) : Bool :=
  match c with
  | .normal | .truncated => true
  | .laneFault | .aborted | .clockFault => false

/-- R79, R81: whether a closed hit is rejected. -/
def filterRejects (rules : Vector FilterRule 8) (c : ClosedHit) : Bool :=
  c.cause.judged && rules.toList.any fun r => r.rejects c

/-- R83: a rejected hit: it is counted, its segment is freed, and a member leaves its context. -/
def rejectHit (c : ClosedHit) (s : State) : State :=
  let s := s.modCounts c.channel fun k => { k with filtered := k.filtered + 1 }
  let s := freeSegmentOf c.channel c.hitId s
  match s.asm.memberOf c.channel c.hitId with
  | none => s
  | some k =>
    match s.asm.contexts[k] with
    | some ctx => removeMember k ctx c.channel c.hitId s
    | none => s

/-- R82: a passed hit goes to its context, or to the Record Queues as a standalone hit. -/
def passHit (c : ClosedHit) (s : State) : State :=
  match s.asm.memberOf c.channel c.hitId with
  | none => offerStandalone EventTag.none c s
  | some k =>
    match s.asm.contexts[k] with
    | some ctx => parkMember k ctx c s
    | none => offerStandalone EventTag.none c s

/-- R50, R138, R79: a closed hit is handed on: its segment's filling ends, and the filters judge it. -/
def handOn (c : ClosedHit) (s : State) : State :=
  let s := segmentFillEnd c.channel c.hitId s
  if filterRejects s.tables.filter c then rejectHit c s else passHit c s

/-! ## Closure -/

/-- R52: the continuous run after a closure, and LANE.CONTINUOUS. -/
def continuousRun (ch : Channel) (cause : Closure) (s : State) : State :=
  match cause with
  | .truncated =>
    let s := s.modDet ch fun d => { d with contRun := min (d.contRun + 1) 65535 }
    if s.tables.setup.continuousRun ≤ s.dets[ch].contRun then raise (.continuous ch) s else s
  | .normal | .laneFault | .aborted | .clockFault => s.modDet ch fun d => { d with contRun := 0 }

/-- R48, R49, R56: whether a closure of this cause is followed by the rearm hold and not by BLOCKED. -/
def Closure.rearms (c : Closure) (acq : Acq) : Bool :=
  match c with
  | .normal | .truncated => acq == .armed
  | .laneFault | .aborted | .clockFault => false

/-- R48: the detector after a closure. -/
def Detector.afterClosure (rearms : Bool) (d : Detector) : Detector :=
  { d with machine := if rearms then .rearmHold else .blocked, rearm := d.active.rht }

/-- R48 to R56: the open hit of a channel closes. The detector is in REARM_HOLD or BLOCKED, the closed hit is handed on, the
continuous run follows, and a BLOCKED detector applies a waiting entry. -/
def closeHit (ch : Channel) (tick : TestTime) (cause : Closure) (s : State) : State :=
  match s.dets[ch].machine with
  | .inHit h =>
    let hit := closedHitOf ch s.dets[ch].active tick cause h
    let rearms := cause.rearms s.acq
    let s := s.modDet ch (Detector.afterClosure rearms)
    let s := continuousRun ch cause (handOn hit s)
    if rearms then s else applyWaiting ch s
  | .idle | .rearmHold | .blocked => s

/-! ## Opening -/

/-- R44: the counter after one opening; after 4,294,967,295 it is exhausted. -/
def advanceHitId (id : Counter) : Option Counter := if id = BitVec.allOnes 32 then none else some (id + 1)

/-- R43: the fields of a hit that opens. -/
def openingHit (s : State) (ch : Channel) (smp : Sample) (hitId : Counter) : OpenHit :=
  let m := magnitude smp
  { hitId := hitId, arrival := s.tt, peak := m, peakTime := s.tt, counts := 1, countsToPeak := 1, lastActivity := s.tt,
    prevActive := true, energySum := BitVec.ofNat 64 (m * m), tailSum := 0, clipped := fullScale smp,
    pressure := s.hist.pressure, pStale := s.pStale, openingLevel := s.dets[ch].thrDb, role := s.dets[ch].active.role,
    guarded := false, noContext := false, orphaned := false, wfSkipped := false }

/-- R85: the guard remaining counts raised by an opening of a GUARD channel with this entry. -/
def raiseGuards (e : ChannelEntry) (s : State) : State :=
  { s with guard := tabulate fun j => if e.guardMask.getLsbD j.val then max s.guard[j] (e.guardWindow + 1) else s.guard[j] }

/-- R43 to R45, R85: a hit opens with this hit_id. -/
def openHit (ch : Channel) (smp : Sample) (hitId : Counter) (s : State) : State :=
  let hit := openingHit s ch smp hitId
  let s := { s with nextHit := advanceHitId hitId }
  let s := s.modDet ch fun d => { d with machine := .inHit hit, hitsOpened := d.hitsOpened + 1 }
  let s := segmentFill ch hitId smp (decideCapture ch hitId s.tt s)
  let s := s.modFigures ch fun g => { g with opened := g.opened + 1 }
  match hit.role with
  | .guard => raiseGuards s.dets[ch].active s
  | .data => s

/-! ## The open hit, sample by sample -/

/-- Section 3.1: a sample is active when its magnitude reaches the threshold code. -/
def Detector.activeAt (d : Detector) (smp : Sample) : Bool := decide (d.thrCode ≤ magnitude smp)

/-- R46, R47, R72: an open hit after one sample. -/
def OpenHit.update (h : OpenHit) (active : Bool) (pst : Nat) (tick : TestTime) (smp : Sample) : OpenHit :=
  let m := magnitude smp
  let square := BitVec.ofNat 64 (m * m)
  let counts := if active && !h.prevActive then min (h.counts + 1) 65535 else h.counts
  let replaces := decide (h.peak < m) && decide (ticksBetween tick h.peakTime ≤ pst)
  { h with
    lastActivity := if active then tick else h.lastActivity
    energySum := if active then h.energySum + h.tailSum + square else h.energySum
    tailSum := if active then 0 else h.tailSum + square
    counts := counts
    clipped := h.clipped || fullScale smp
    peak := if replaces then m else h.peak
    peakTime := if replaces then tick else h.peakTime
    countsToPeak := if replaces then counts else h.countsToPeak
    prevActive := active }

/-- R48, R49: the closure that the sample of this tick brings, if any. -/
def OpenHit.closure (h : OpenHit) (e : ChannelEntry) (tick : TestTime) : Option Closure :=
  if e.hct ≤ ticksBetween tick h.lastActivity then some .normal
  else if e.maxDuration ≤ ticksBetween tick h.arrival then some .truncated
  else none

/-- What a detector made of a sample: the state, whether a hit opened, whether one closed. -/
structure Taken where
  state : State
  opened : Bool
  closed : Bool
  deriving DecidableEq, Repr

/-- R46 to R49, R137: a sample taken in IN_HIT. -/
def takeInHit (ch : Channel) (smp : Sample) (h : OpenHit) (s : State) : Taken :=
  let d := s.dets[ch]
  let h := h.update (d.activeAt smp) d.active.pst s.tt smp
  let s := segmentFill ch h.hitId smp (s.modOpen ch fun _ => h)
  match h.closure d.active s.tt with
  | some cause => { state := closeHit ch s.tt cause s, opened := false, closed := true }
  | none => { state := s, opened := false, closed := false }

/-- R43, R44: a sample taken in IDLE. -/
def takeIdle (ch : Channel) (smp : Sample) (s : State) : Taken :=
  if s.dets[ch].activeAt smp then
    match s.nextHit with
    | some hitId => { state := openHit ch smp hitId s, opened := true, closed := false }
    | none => { state := s, opened := false, closed := false }
  else { state := s, opened := false, closed := false }

/-- R53: a BLOCKED detector whose lane is LIVE leaves BLOCKED in ARMED, for IDLE or REARM_HOLD. -/
def Detector.unblock (acq : Acq) (d : Detector) : Detector :=
  match d.machine with
  | .blocked => if acq = .armed then { d with machine := if d.rearm = 0 then .idle else .rearmHold } else d
  | .idle | .inHit _ | .rearmHold => d

/-- R42, R43, R46, R51, R53: a detector takes a delivered sample. -/
def takeSample (ch : Channel) (smp : Sample) (s : State) : Taken :=
  let s := s.modDet ch (Detector.unblock s.acq)
  match s.dets[ch].machine with
  | .idle => takeIdle ch smp s
  | .inHit h => takeInHit ch smp h s
  | .rearmHold | .blocked => { state := s, opened := false, closed := false }

/-- R59: what a tick of a learning period adds for one channel. -/
def Detector.learn (delivered : Option Sample) (d : Detector) : Detector :=
  match delivered with
  | some smp =>
    { d with learnSum := d.learnSum + BitVec.ofNat 48 (magnitude smp), learnCount := d.learnCount + 1 }
  | none => { d with learnCover := false }

/-- R60, steps 1 and 2: the learned noise at the end of a learning period. -/
def Detector.learned (d : Detector) : Detector :=
  ({ d with noise := if d.learnCover then some (backgroundLevel d.learnSum d.learnCount d.active.lsbNv) else none }
    : Detector).rethreshold

/-- R60, step 3: whether LANE.NOISY is set. -/
def Detector.noisy (d : Detector) : Bool :=
  match d.noise with
  | some n => decide (d.thrDb < n + 6)
  | none => false

/-- R42: the end-of-tick lowering of the rearm ticks remaining. -/
def Detector.lowerRearm (d : Detector) : Detector := { d with rearm := d.rearm - 1 }

/-- R51: REARM_EXPIRY is due. -/
def Detector.rearmDue (d : Detector) : Bool := d.machine == .rearmHold && decide (d.rearm = 0)

/-! ## The guard judgement -/

/-- R86: a released opening is GUARDED, or offered to the Event Assembler. -/
def judgeOpening (ch : Channel) (s : State) : State :=
  match s.dets[ch].machine with
  | .inHit h =>
    if 0 < s.guard[ch] then
      (s.modOpen ch fun h => { h with guarded := true }).modCounts ch fun k => { k with guarded := k.guarded + 1 }
    else offerOpening ch h s
  | .idle | .rearmHold | .blocked => s

end Sys2Proof.Machine
end

