-- ==== Sys2Proof/Machine/Row.lean ====
section
/-! DEFINITION. The sample row (R42): the channels in ascending number, the opening list (R87), and the end-of-tick lowering. -/

namespace Sys2Proof.Machine

/-- R17, R53, R54: the lane of a channel has left LIVE at this tick: an open hit closes with LANE_FAULT, and the detector is
BLOCKED. -/
def departLive (ch : Channel) (s : State) : State :=
  match s.dets[ch].machine with
  | .inHit _ => closeHit ch s.tt .laneFault s
  | .idle | .rearmHold | .blocked => blockDetector ch s

/-- R17: a lane enters FAULTED: LANE.FAULT is set, and a lane that was LIVE reports its departure. -/
def laneFaulted (ch : Channel) (wasLive : Bool) (s : State) : State :=
  let s := raise (.laneFault (ch.castLE (by decide))) s
  if wasLive then departLive ch s else s

/-- R67, R128: a LIVE sample adds to the ASL figures of its channel. -/
def IntervalFigures.addSample (smp : Sample) (g : IntervalFigures) : IntervalFigures :=
  { g with aslSum := g.aslSum + BitVec.ofNat 48 (magnitude smp), aslCount := g.aslCount + 1 }

/-- R13, R128, R133: the other consumers of a delivered sample: the pretrigger ring and the ASL measurement. -/
def consumeSample (ch : Channel) (smp : Sample) (s : State) : State :=
  (ringWrite ch smp s).modFigures ch (IntervalFigures.addSample smp)

/-- R59: during a learning period a tick of one channel is learned. -/
def learnTick (ch : Channel) (delivered : Option Sample) (s : State) : State :=
  match s.acq with
  | .learning _ _ => s.modDet ch (Detector.learn delivered)
  | .off | .starting _ _ | .standby | .armed | .draining _ => s

/-- What the detector of a channel takes of a tick: the sample its lane delivered, or a departure from LIVE. -/
def takeDelivered (ch : Channel) (wasLive : Bool) (r : LaneTick) (s : State) : Taken :=
  match r.delivered with
  | some smp =>
    let t := takeSample ch smp s
    { t with state := consumeSample ch smp t.state }
  | none =>
    let closes := s.dets[ch].open?.isSome && r.fault.isSome && wasLive
    { state := if r.fault.isSome then laneFaulted ch wasLive s else s, opened := false, closed := closes }

/-- R42: one channel of a row: its lane takes the word, its detector takes the sample, and the rearm ticks remaining are lowered
unless a closure set them on this tick. The order of a lane's work and its detector's within a row is log 8. -/
def takeChannel (words : Vector LaneWord 16) (ch : Channel) (s : State) : Taken :=
  let wasLive := s.lanes[ch].beginTick.isLive
  let r := s.lanes[ch].tick s.tables.setup.settleMs words[ch]
  let s := s.modLane ch fun _ => r.lane
  let s := if r.entered then ringClear ch s else s
  let t := takeDelivered ch wasLive r s
  let s := learnTick ch r.delivered t.state
  { t with state := if t.closed then s else s.modDet ch Detector.lowerRearm }

/-- The role with which the open hit of a channel opened is DATA. -/
def openedAsData (ch : Channel) (s : State) : Bool :=
  match s.dets[ch].machine with
  | .inHit h => h.role == .data
  | .idle | .rearmHold | .blocked => false

/-- R42, R87: the channels of a row in ascending number, with the row's opening list of DATA openings. -/
def takeRow (words : Vector LaneWord 16) : List Channel → State × List Channel → State × List Channel
  | [], acc => acc
  | ch :: chs, acc =>
    let t := takeChannel words ch acc.1
    takeRow words chs (t.state, if t.opened && openedAsData ch t.state then acc.2 ++ [ch] else acc.2)

/-- R87: the opening list released, lowest channel first. -/
def releaseOpenings (openings : List Channel) (s : State) : State := openings.foldl (fun s ch => judgeOpening ch s) s

/-- R31, R32: the controller's tick counts advance. -/
def Acq.countTick (a : Acq) : Acq :=
  match a with
  | .starting t (.syncing n) => .starting t (.syncing (n + 1))
  | .starting t (.settling n length) => .starting t (.settling (n + 1) length)
  | .learning n period => .learning (n + 1) period
  | .off | .starting _ .locking | .standby | .armed | .draining _ => a

/-- R84: the guard remaining counts are lowered. -/
def lowerGuards (g : Vector Nat 16) : Vector Nat 16 := tabulate fun j => g[j] - 1

/-- R127: a running interval timer counts the tick. -/
def IntervalTimer.countTick (t : IntervalTimer) : IntervalTimer :=
  if t.period.isSome then { t with ticks := t.ticks + 1 } else t

/-- The end-of-tick counts: guard counts (R84), pressure slot (R20), interval timer (R127), controller (R31, R32). -/
def endOfTick (s : State) : State :=
  { s with guard := lowerGuards s.guard, pl := { s.pl with slotTicks := s.pl.slotTicks + 1 },
           timer := s.timer.countTick, acq := s.acq.countTick }

/-- R6: Test Time advances by one after the row; the row carried the value before. -/
def advanceTime (s : State) : State := { s with rowTT := s.tt, tt := s.tt + 1 }

/-- R42, R87, R84: a row taken whole, up to the end-of-tick counts. -/
def rowTaken (words : Vector LaneWord 16) (s : State) : State :=
  let r := takeRow words channels (s, [])
  endOfTick (releaseOpenings r.2 r.1)

end Sys2Proof.Machine
end

