-- ==== Sys2Proof/Machine/History.lean ====
section
/-! DEFINITION. The Load History (Chapter 7): pressure, phase, interval timer, interval records; and the pressure lane
(section 1.4). -/

namespace Sys2Proof.Machine

/-! ## Pressure -/

/-- R118: the largest pressure, in kPa. -/
def pressureMax : Nat := 250000

/-- R118: the conversion of a code to kPa. -/
def pressureOf (e : SetupEntry) (code : Sample) : Nat :=
  clampInt (((code.toNat * e.pGain / 4096 : Nat) : Int) + e.pOffsetKpa) pressureMax

/-- R118, R120: a good word's code replaces the pressure and may raise P_max. -/
def LoadHistory.takePressure (p : Nat) (h : LoadHistory) : LoadHistory := { h with pressure := p, pMax := max h.pMax p }

/-- R20, R21: a good word into an unfilled slot. -/
def goodPressureWord (code : Sample) (s : State) : State :=
  { s with hist := s.hist.takePressure (pressureOf s.tables.setup code),
           pl := { s.pl with slotFilled := true, missingRun := 0, state := .live } }

/-- R20: a discarded word, malformed or surplus. -/
def discardPressureWord (s : State) : State := { s with pl := { s.pl with framingErrors := s.pl.framingErrors + 1 } }

/-- R20: a word arrives on the pressure lane while a slot runs. -/
def takePressureWord (w : PressureWord) (s : State) : State :=
  match w with
  | .wellFormed code => if s.pl.slotFilled then discardPressureWord s else goodPressureWord code s
  | .malformed => discardPressureWord s

/-- R20: the ticks of a slot. -/
def slotLength : Nat := 1000

/-- R20, R21: the missing-slot run at which PL becomes STALE, and at which the run holds. -/
def staleRun : Nat := 50

/-- R20: PL_SLOT_END is due. -/
def State.plSlotDue (s : State) : Bool := s.ticking && decide (slotLength ≤ s.pl.slotTicks)

/-- R20, R21: the end of a slot, and the next slot begins. PL becomes STALE when the missing-slot run reaches 50. -/
def endSlot (s : State) : State :=
  let run := if s.pl.slotFilled then s.pl.missingRun else min (s.pl.missingRun + 1) staleRun
  let stale := !s.pl.slotFilled && decide (staleRun ≤ run) && s.pl.state != .stale
  let s := { s with pl := { s.pl with missingRun := run, slotTicks := 0, slotFilled := false,
                                      state := if stale then .stale else s.pl.state } }
  if stale then raise (.laneFault 16) s else s

/-- R22: the synthesizer leaves LOCKED. -/
def PressureLane.resync (p : PressureLane) : PressureLane :=
  { p with state := .syncing, slotTicks := 0, slotFilled := false, missingRun := 0 }

/-! ## Phase -/

/-- R123: the phase becomes the requested one; entry to HOLD zeroes the hold counts. -/
def LoadHistory.setPhase (p : Phase) (h : LoadHistory) : LoadHistory :=
  if p = .hold ∧ h.phase ≠ .hold then { h with phase := p, holdCounts := tabulate fun _ => 0 } else { h with phase := p }

/-- R121: RESET_LOAD_HISTORY. -/
def LoadHistory.resetPeak (h : LoadHistory) : LoadHistory := { h with pMax := h.pressure }

/-! ## Interval timer -/

/-- R126: the timer starts from zero with interval_k as it stands; with OFF it does not start. -/
def startTimer (s : State) : State :=
  match s.tables.setup.intervalK with
  | none => s
  | some k =>
    { s with timer := { s.timer with period := some (2 ^ k * 2000), ticks := 0, eventsCompleted := 0
                                     figures := tabulate fun _ => IntervalFigures.reset } }

/-- R126: the timer stops; a stopped timer reads no period and tick count 0 (log 19). -/
def stopTimer (s : State) : State := { s with timer := { s.timer with period := none, ticks := 0 } }

/-- R126: a SETUP commit in STANDBY that changes interval_k. -/
def retime (s : State) : State := if s.tables.setup.intervalK.isSome then startTimer s else stopTimer s

/-- Section 7.3: the tick count of the current interval, 0 to period − 1. After the interval's last tick it goes to 0 with the expiry,
so it reads period − 1 until the expiry that is due has been taken (R127). -/
def IntervalTimer.tickCount (t : IntervalTimer) : Nat :=
  match t.period with
  | some p => min t.ticks (p - 1)
  | none => t.ticks

/-- R127: INTERVAL_EXPIRY is due. -/
def State.intervalDue (s : State) : Bool :=
  match s.timer.period with
  | some p => decide (p ≤ s.timer.ticks)
  | none => false

/-- R129: one channel's part of the record. -/
def intervalChannel (s : State) (ch : Channel) : IntervalChannel :=
  let g := s.timer.figures[ch]
  { aslDb := if g.aslCount = 0 then none else some (backgroundLevel g.aslSum g.aslCount s.dets[ch].active.lsbNv),
    opened := g.opened, lost := g.lost }

/-- R129: the Test Time of the last tick. A ZERO_TIME since that tick, which leaves Test Time other than one past its stamp, is seen
(R127): the last tick then reads the Test Time that it left (log 11). -/
def State.lastTickTime (s : State) : TestTime := if s.tt = s.rowTT + 1 then s.rowTT else s.tt

/-- R129: the interval record, every field as it stands. -/
def intervalRecord (s : State) : IntervalRecord :=
  { time := s.lastTickTime, pressure := s.hist.pressure, pStale := s.pStale, pMax := s.hist.pMax, phase := s.hist.phase,
    shedLevel := s.rq.shed.val, acqState := s.acq.number, perChannel := tabulate (intervalChannel s),
    eventsCompleted := s.timer.eventsCompleted, holdCounts := s.hist.holdCounts, digest := s.lock,
    prevReplaced := s.timer.slot.isSome }

/-- R127, R128, R130: the interval expires: the record is built and placed in the slot, and the figures are cleared. -/
def expireInterval (s : State) : State :=
  let r := intervalRecord s
  { s with timer := { s.timer with slot := some r, ticks := 0, eventsCompleted := 0,
                                   replaced := if r.prevReplaced then s.timer.replaced + 1 else s.timer.replaced
                                   figures := tabulate fun _ => IntervalFigures.reset } }

end Sys2Proof.Machine
end

