-- ==== Sys2Proof/Machine/Controller.lean ====
section
/-! DEFINITION. The Acquisition Controller (Chapter 2) and the clock synthesizer (section 1.1): starts, learning, arming,
draining, entries to OFF. -/

namespace Sys2Proof.Machine

/-- R38: the arrival in the state that a GO asked for, with the number of that state. -/
def reachState (s : State) : State := setFactor .stateReached 0 (some s.acq.number) s

/-! ## Entry to OFF -/

/-- R28: the reason of an entry to OFF. -/
inductive OffReason where
  | off
  | abort
  | clock
  deriving DecidableEq, Repr

/-- R28, R55: the cause with which an entry to OFF closes an open hit. With the reason "off" no hit is open in any run; a hit that
is open all the same closes as its lane leaves LIVE for OFF (R54; log 23). -/
def OffReason.cause (r : OffReason) : Closure :=
  match r with
  | .off => .laneFault
  | .abort => .aborted
  | .clock => .clockFault

/-- R28, step 2, R55: one detector at an entry to OFF: its open hit closes, or it is BLOCKED, and a waiting entry is applied. -/
def detectorOff (reason : OffReason) (ch : Channel) (s : State) : State :=
  match s.dets[ch].machine with
  | .inHit _ => closeHit ch s.rowTT reason.cause s
  | .idle | .rearmHold | .blocked => blockDetector ch s

/-- R3, R10, R22, R28: the stop request: the synthesizer is STOPPED, every acoustic lane enters OFF, and the pressure receiver
enters SYNCING if the synthesizer leaves LOCKED. -/
def stopClock (s : State) : State :=
  { s with synth := .stopped, lanes := tabulate fun ch => s.lanes[ch].toOff,
           pl := if s.ticking then s.pl.resync else s.pl }

/-- R28, step 3: the contexts dissolve for "abort" and "clock". -/
def OffReason.dissolves (r : OffReason) (s : State) : State :=
  match r with
  | .off => s
  | .abort | .clock => dissolveAll s

/-- R33: a learning period is discarded: the partial sums are dropped. -/
def Detector.dropLearning (d : Detector) : Detector := { d with learnSum := 0, learnCount := 0 }

/-- R28, step 1, R33: the controller is OFF, with no target and no substep; a learning period in progress is discarded. -/
def leaveForOff (s : State) : State :=
  match s.acq with
  | .learning _ _ => { s with acq := .off, dets := tabulate fun ch => s.dets[ch].dropLearning }
  | .off | .starting _ _ | .standby | .armed | .draining _ => { s with acq := .off }

/-- R28: an entry to OFF. -/
def enterOff (reason : OffReason) (s : State) : State :=
  let s := leaveForOff s
  let s := channels.foldl (fun s ch => detectorOff reason ch s) s
  stopTimer (stopClock (reason.dissolves s))

/-! ## Starting -/

/-- R30: the number of a start failure cause, and its place in the notice index. -/
def StartFailure.number (f : StartFailure) : Nat :=
  match f with
  | .lock => 0
  | .noLane => 1

/-- R30: a failed start. -/
def failStart (cause : StartFailure) (s : State) : State :=
  setFactor .startFailed cause.number none { enterOff .off s with lastFail := some cause }

/-- R1: the 20 ms of the lock timer, in microseconds of the link clock. -/
def lockTimeout : Nat := 20000

/-- R1: a start request; it is ignored unless the synthesizer is STOPPED. -/
def requestStart (s : State) : State :=
  match s.synth with
  | .stopped => { s with synth := .locking (s.now + lockTimeout) }
  | .locking _ | .locked | .lost => s

/-- R29: entry to STARTING. -/
def enterStarting (t : StartTarget) (s : State) : State := requestStart { s with acq := .starting t .locking }

/-- R2, R31: the controller's part of a lock achieved. -/
def Acq.locked (a : Acq) : Acq :=
  match a with
  | .starting t .locking => .starting t (.syncing 0)
  | .starting t (.syncing n) => .starting t (.syncing n)
  | .starting t (.settling n l) => .starting t (.settling n l)
  | .off => .off
  | .standby => .standby
  | .learning n p => .learning n p
  | .armed => .armed
  | .draining t => .draining t

/-- R2, R10, R31: a lane at lock: it has declared no sync yet, and it enters SYNCING if its channel is enabled. -/
def Lane.atLock (enabled : Bool) (l : Lane) : Lane :=
  let l := { l with declared := false }
  if enabled then l.toSyncing else l

/-- R2, R20: a lock achieved in LOCKING. -/
def achieveLock (s : State) : State :=
  { s with synth := .locked, acq := s.acq.locked,
           lanes := tabulate fun ch => s.lanes[ch].atLock s.dets[ch].active.enabled,
           pl := { s.pl with slotTicks := 0, slotFilled := false } }

/-- R2, R30: the lock timer's expiry in LOCKING. -/
def failLock (s : State) : State := failStart .lock (raise .lockFail { s with synth := .stopped })

/-- R4, R22, R35: a loss of lock in LOCKED. The pressure receiver resynchronizes as the synthesizer leaves LOCKED. -/
def loseLock (s : State) : State :=
  enterOff .clock (raise .lockLost { s with synth := .lost, pl := s.pl.resync })

/-- R31: an enabled DATA lane declared word sync since lock. -/
def anyDataSynced (s : State) : Bool :=
  channels.any fun ch => s.tables.channel[ch].enabledData && s.lanes[ch].declared

/-- R31: SYNCING_SUBSTEP_END is due. -/
def State.syncingDue (s : State) : Bool :=
  match s.acq with
  | .starting _ (.syncing n) => decide (syncSearchTicks ≤ n)
  | .starting _ .locking | .starting _ (.settling _ _) | .off | .standby | .learning _ _ | .armed | .draining _ => false

/-- R31: the end of the SYNCING substep. -/
def endSyncing (t : StartTarget) (s : State) : State :=
  if anyDataSynced s then { s with acq := .starting t (.settling 0 (s.tables.setup.settleMs * 2000)) }
  else failStart .noLane s

/-- R31: SETTLING_SUBSTEP_END is due. -/
def State.settlingDue (s : State) : Bool :=
  match s.acq with
  | .starting _ (.settling n length) => decide (length ≤ n)
  | .starting _ .locking | .starting _ (.syncing _) | .off | .standby | .learning _ _ | .armed | .draining _ => false

/-! ## Learning and arming -/

/-- R59: a learning period begins in a detector. -/
def Detector.beginLearning (d : Detector) : Detector := { d with learnSum := 0, learnCount := 0, learnCover := true }

/-- R32, R59: entry to LEARNING. -/
def enterLearning (s : State) : State :=
  { s with acq := .learning 0 (s.tables.setup.learnMs * 2000),
           dets := tabulate fun ch => s.dets[ch].beginLearning }

/-- R31, R38, R126: entry to STANDBY. -/
def enterStandby (s : State) : State := reachState (startTimer { s with acq := .standby })

/-- R31, R126: the end of the SETTLING substep. -/
def endSettling (t : StartTarget) (s : State) : State :=
  match t with
  | .standby => enterStandby s
  | .armed => enterLearning (startTimer s)

/-- R32: LEARNING_END is due. -/
def State.learningDue (s : State) : Bool :=
  match s.acq with
  | .learning n period => decide (period ≤ n)
  | .starting _ _ | .off | .standby | .armed | .draining _ => false

/-- R60: one detector at the end of a learning period. -/
def learnChannel (ch : Channel) (s : State) : State :=
  let s := s.modDet ch Detector.learned
  if s.dets[ch].noisy then raise (.noisy ch) s else s

/-- R34, R84: entry to ARMED. -/
def enterArmed (s : State) : State := reachState { s with acq := .armed, guard := tabulate fun _ => 0 }

/-- R32, R60: the end of the learning period. The channels are taken in ascending number, which R60 leaves open (log 32). -/
def endLearning (s : State) : State := enterArmed (channels.foldl (fun s ch => learnChannel ch s) s)

/-! ## Draining -/

/-- R37: no hit is open on any channel and every context is FREE. -/
def State.drained (s : State) : Bool :=
  (channels.all fun ch => s.dets[ch].open?.isNone) && (contextNumbers.all fun k => s.asm.contexts[k].isNone)

/-- R37, R38: the drain has reached its target. -/
def reachDrainTarget (t : DrainTarget) (s : State) : State :=
  match t with
  | .standby => enterStandby s
  | .off => reachState (enterOff .off s)

/-- R37: the drain test. -/
def checkDrain (s : State) : State :=
  match s.acq with
  | .draining t => if s.drained then reachDrainTarget t s else s
  | .off | .starting _ _ | .standby | .learning _ _ | .armed => s

/-- R36, R37, R56: entry to DRAINING: a detector without an open hit is BLOCKED at once, and the drain is tested. -/
def enterDraining (t : DrainTarget) (s : State) : State :=
  checkDrain (channels.foldl (fun s ch => blockDetector ch s) { s with acq := .draining t })

end Sys2Proof.Machine
end

