-- ==== Sys2Proof/Machine/Loader.lean ====
section
/-! DEFINITION. The Table Loader, the test lock and the digest (Chapter 11). -/

namespace Sys2Proof.Machine

/-- What the owner of a request answers: the state after it, the code, and the body of the response (section 13.4). -/
structure Answer where
  state : State
  code : Code
  body : List Byte
  deriving DecidableEq, Repr

/-- Chapter 11: the acquisition states in which a table may be loaded. -/
def TableId.loadableIn (t : TableId) (a : Acq) : Bool :=
  match t with
  | .zone => true
  | .channel => a == .off || a == .standby || a == .armed
  | .setup | .pair | .filter => a == .off || a == .standby

/-- The most entries of one load (R184). -/
def maxLoad : Nat := 16

/-- R187: 1 second of the link clock, in microseconds. -/
def loadIdle : Nat := 1000000

/-- R187: a load is abandoned: the loader is IDLE and TABLE.LOAD_ABANDONED is set. -/
def abandonLoad (s : State) : State := raise .loadAbandoned { s with loader := none }

/-- R183, R185: the four bytes of a table's CRC. -/
def crcBytes (s : State) (t : TableId) : List Byte := beBytes 4 (s.crcs.get t).toNat

/-! ## Whole-load validation (R188) -/

/-- The detail codes of R188, in the order of its table. -/
inductive Detail where
  | selfPair
  | dupPair
  | pairGuard
  | guardMask
  | pstGtHct
  | hctGtMax
  | preGeMax
  | filterOrder
  deriving DecidableEq, Repr

/-- Section 13.4: the number of a detail code. -/
def Detail.number (d : Detail) : Nat :=
  match d with
  | .selfPair => 0
  | .dupPair => 1
  | .pairGuard => 2
  | .guardMask => 3
  | .pstGtHct => 4
  | .hctGtMax => 5
  | .preGeMax => 6
  | .filterOrder => 7

/-- The role a channel would have in these tables. -/
def Tables.guardRole (t : Tables) (ch : Channel) : Bool := t.channel[ch].role == .guard

/-- The index of the lowest entry that a test fails. -/
def firstFailing {α : Type} (p : α → Bool) (l : List α) : Option Nat :=
  if l.any p then some (l.findIdx p) else none

/-- SELF_PAIR: a used slot with ch_a = ch_b. -/
def selfPairAt (t : Tables) : Option Nat :=
  firstFailing (fun o => match o with | some p => p.chA == p.chB | none => false) t.pair.toList

/-- Whether a used slot names the same unordered pair as one of the slots before it. -/
def duplicates (before : List (Option PairEntry)) (o : Option PairEntry) : Bool :=
  match o with
  | none => false
  | some p => before.any fun b => match b with | some q => q.names p.chA p.chB | none => false

/-- DUP_PAIR: the lowest used slot that names the same unordered pair as a lower-numbered used slot. -/
def dupPairFrom : List (Option PairEntry) → List (Option PairEntry) → Nat → Option Nat
  | _, [], _ => none
  | before, o :: os, i => if duplicates before o then some i else dupPairFrom (o :: before) os (i + 1)

/-- PAIR_GUARD: a used slot naming a channel whose role is GUARD. -/
def pairGuardAt (t : Tables) : Option Nat :=
  firstFailing (fun o => match o with | some p => t.guardRole p.chA || t.guardRole p.chB | none => false) t.pair.toList

/-- GUARD_MASK: a GUARD entry whose mask names its own channel or a channel whose role is GUARD. A mask that names its own channel
names a GUARD channel. -/
def guardMaskAt (t : Tables) : Option Nat :=
  firstFailing
    (fun ch : Channel =>
      t.guardRole ch && channels.any fun j => t.channel[ch].guardMask.getLsbD j.val && (j == ch || t.guardRole j))
    channels

/-- PST_GT_HCT: an entry with pst > hct. -/
def pstGtHctAt (t : Tables) : Option Nat := firstFailing (fun e => decide (e.hct < e.pst)) t.channel.toList

/-- HCT_GT_MAX: an entry with hct > max_duration. -/
def hctGtMaxAt (t : Tables) : Option Nat := firstFailing (fun e => decide (e.maxDuration < e.hct)) t.channel.toList

/-- PRE_GE_MAX: an entry with wf_pre ≥ wf_max. -/
def preGeMaxAt (t : Tables) : Option Nat := firstFailing (fun e => decide (e.wfMax ≤ e.wfPre)) t.channel.toList

/-- FILTER_ORDER: a rule with low > high. -/
def filterOrderAt (t : Tables) : Option Nat := firstFailing (fun r => decide (r.high < r.low)) t.filter.toList

/-- The failing entry of one check on the tables as they would stand. -/
def Detail.failingAt (d : Detail) (t : Tables) : Option Nat :=
  match d with
  | .selfPair => selfPairAt t
  | .dupPair => dupPairFrom [] t.pair.toList 0
  | .pairGuard => pairGuardAt t
  | .guardMask => guardMaskAt t
  | .pstGtHct => pstGtHctAt t
  | .hctGtMax => hctGtMaxAt t
  | .preGeMax => preGeMaxAt t
  | .filterOrder => filterOrderAt t

/-- R188: the checks made for a load of a table, in the order of the table of R188. -/
def TableId.checks (t : TableId) : List Detail :=
  match t with
  | .pair => [.selfPair, .dupPair, .pairGuard]
  | .channel => [.pairGuard, .guardMask, .pstGtHct, .hctGtMax, .preGeMax]
  | .filter => [.filterOrder]
  | .setup | .zone => []

/-- R188: the first check of a list that fails, with the index of its failing entry. -/
def firstFailure (t : Tables) : List Detail → Option (Detail × Nat)
  | [] => none
  | d :: ds =>
    match d.failingAt t with
    | some i => some (d, i)
    | none => firstFailure t ds

/-! ## Commit (R189) -/

/-- R57: a CHANNEL entry committed while ARMED: applied at once in IDLE or BLOCKED, and waiting otherwise. -/
def deferEntry (ch : Channel) (e : ChannelEntry) (s : State) : State :=
  match s.dets[ch].machine with
  | .idle | .blocked => applyEntry ch e s
  | .inHit _ | .rearmHold => s.modDet ch fun d => { d with waiting := some e }

/-- R189, R57: one committed CHANNEL entry handed to its detector. -/
def handEntry (ch : Channel) (s : State) : State :=
  let e := s.tables.channel[ch]
  match s.acq with
  | .armed => deferEntry ch e s
  | .off | .starting _ _ | .standby | .learning _ _ | .draining _ => applyEntry ch e s

/-- The channels whose entries a load has replaced. -/
def channelsOf (first count : Nat) : List Channel :=
  channels.filter fun ch => decide (first ≤ ch.val) && decide (ch.val < first + count)

/-- R189: the consumers of a committed table. -/
def handTable (t : TableId) (first count : Nat) (old : Tables) (s : State) : State :=
  match t with
  | .channel => (channelsOf first count).foldl (fun s ch => handEntry ch s) s
  | .setup =>
    if s.acq = .standby ∧ s.tables.setup.intervalK ≠ old.setup.intervalK then retime s else s
  | .pair | .filter | .zone => s

/-- R183, R189: the committed tables, with the CRC of the table that changed computed again. -/
def putTables (t : TableId) (tables : Tables) (s : State) : State :=
  { s with tables := tables, crcs := s.crcs.put t (tables.crcOf t) }

/-- R189: a commit; the loader is IDLE and TABLE.LOAD_DONE is set. -/
def commitLoad (l : Load) (tables : Tables) (s : State) : State :=
  let old := s.tables
  let s := putTables l.table tables { s with loader := none }
  raise .loadDone (handTable l.table l.first l.expected old s)

/-- R188: the end of a load. -/
def endLoad (l : Load) (s : State) : Answer :=
  if l.table.loadableIn s.acq then
    let tables := s.tables.putEntries l.table l.first l.staged
    match firstFailure tables l.table.checks with
    | some (d, i) => { state := abandonLoad s, code := .invalid, body := [byte d.number, byte i] }
    | none =>
      let s := commitLoad l tables s
      { state := s, code := .ok, body := crcBytes s l.table }
  else { state := abandonLoad s, code := .state, body := [] }

/-! ## The table requests -/

/-- R184: the load that begins. -/
def beginLoad (t : TableId) (first count : Nat) (s : State) : State :=
  { s with loader := some { table := t, first := first, expected := count, staged := [], expiry := s.now + loadIdle } }

/-- R184, R185: LOAD_BEGIN of a table, judged by the loader. -/
def loadBegin (t : TableId) (first count : Nat) (s : State) : Answer :=
  if s.loader.isSome then { state := s, code := .loadBusy, body := [] }
  else if t.entries ≤ first ∨ maxLoad < count ∨ t.entries < first + count then { state := s, code := .range, body := [] }
  else if count = 0 then { state := s, code := .ok, body := crcBytes s t }
  else if t.lockable && s.lock.isSome then { state := s, code := .locked, body := [] }
  else if t.loadableIn s.acq then { state := beginLoad t first count s, code := .ok, body := [byte count] }
  else { state := s, code := .state, body := [] }

/-- R186, step 4: entries staged, and the idle timer restarted. -/
def Load.stage (l : Load) (es : List Entry) (now : Nat) : Load :=
  { l with staged := l.staged ++ es, expiry := now + loadIdle }

/-- R186: staged entries are taken, and the load ends or stays open. -/
def stageEntries (l : Load) (es : List Entry) (s : State) : Answer :=
  let l := l.stage es s.now
  if l.staged.length < l.expected then
    { state := { s with loader := some l }, code := .ok, body := [byte (l.expected - l.staged.length)] }
  else endLoad l { s with loader := some l }

/-- R186: LOAD_DATA, judged by the loader. -/
def loadData (t : TableId) (count : Nat) (entries : List Byte) (s : State) : Answer :=
  match s.loader with
  | none => { state := s, code := .loadNone, body := [] }
  | some l =>
    if t ≠ l.table ∨ l.expected - l.staged.length < count then { state := abandonLoad s, code := .range, body := [] }
    else
      match decodeEntries t count entries with
      | none => { state := abandonLoad s, code := .range, body := [] }
      | some es => stageEntries l es s

/-- R187: LOAD_ABORT. -/
def loadAbort (s : State) : Answer :=
  if s.loader.isSome then { state := abandonLoad s, code := .ok, body := [] }
  else { state := s, code := .already, body := [] }

/-- R193: READ_TABLE of a table. -/
def readTable (t : TableId) (first count : Nat) (s : State) : Answer :=
  if count < 1 ∨ 4 < count ∨ t.entries < first + count then { state := s, code := .range, body := [] }
  else
    let entries := (List.range count).filterMap fun i => s.tables.entryAt t (first + i)
    { state := s, code := .ok,
      body := [byte t.number, byte first, byte count] ++ entries.flatMap encodeEntry ++ crcBytes s t }

/-- R190: a load of a lockable table is in progress. -/
def State.loadingLockable (s : State) : Bool :=
  match s.loader with
  | some l => l.table.lockable
  | none => false

/-- R190: LOCK_TEST. -/
def lockTest (s : State) : Answer :=
  match s.lock with
  | some digest => { state := s, code := .already, body := beBytes 4 digest.toNat }
  | none =>
    if s.loadingLockable then { state := s, code := .loadBusy, body := [] }
    else
      let digest := digestOf s.crcs
      { state := raise .lockChanged { s with lock := some digest }, code := .ok, body := beBytes 4 digest.toNat }

/-- R191: UNLOCK_TEST. -/
def unlockTest (s : State) : Answer :=
  match s.lock with
  | none => { state := s, code := .already, body := [] }
  | some _ =>
    if s.acq = .off ∨ s.acq = .standby then
      { state := raise .lockChanged { s with lock := none }, code := .ok, body := [] }
    else { state := s, code := .state, body := [] }

end Sys2Proof.Machine
end

