-- ==== Sys2Proof/Machine/Formats.lean ====
section
/-! DEFINITION. The uplink payloads (R201) and the bytes of the frame in flight (R200). -/

namespace Sys2Proof.Machine

/-- A Test Time field: six bytes (section 13.1). -/
def timeBytes (t : TestTime) : List Byte := beBytes 6 t.toNat

/-- The four bytes of a counter. -/
def counterBytes (c : Counter) : List Byte := beBytes 4 c.toNat

/-- Section 13.1: the number of a role. -/
def Role.number (r : Role) : Nat :=
  match r with
  | .data => 0
  | .guard => 1

/-- Section 13.1: the number of a phase. -/
def Phase.number (p : Phase) : Nat :=
  match p with
  | .ramp => 0
  | .hold => 1
  | .unload => 2

/-- Section 13.4: the number of a response code, in the order of the table of section 10.3. -/
def Code.number (c : Code) : Nat :=
  match c with
  | .ok => 0
  | .already => 1
  | .badRequest => 2
  | .range => 3
  | .busy => 4
  | .state => 5
  | .locked => 6
  | .loadNone => 7
  | .loadBusy => 8
  | .invalid => 9
  | .noChannel => 10

/-- R201: the flag field of a hit record. -/
def HitFlags.number (f : HitFlags) : Nat :=
  flagBit f.clipped 0 + flagBit f.truncated 1 + flagBit f.laneFault 2 + flagBit f.aborted 3 + flagBit f.clockFault 4
  + flagBit f.guarded 5 + flagBit f.noContext 6 + flagBit f.orphaned 7 + flagBit f.eventLost 8 + flagBit f.wfSkipped 9
  + flagBit f.pStale 10

/-- An optional part of a hit record. -/
def optionalPart (o : Option Nat) : List Byte :=
  match o with
  | some n => beBytes 4 n
  | none => []

/-- R201: the presence byte of a hit record. -/
def HitRecord.presence (r : HitRecord) : Nat :=
  flagBit r.eventId.isSome 0 + flagBit r.gap.isSome 1 + flagBit r.segId.isSome 2

/-- R201: a hit record, 36 bytes and its optional parts. -/
def HitRecord.bytes (r : HitRecord) : List Byte :=
  counterBytes r.hitId ++ beBytes 1 r.channel.val ++ beBytes 1 r.role.number ++ timeBytes r.arrival
  ++ beBytes 4 r.duration ++ beBytes 4 r.rise ++ beBytes 2 r.counts ++ beBytes 2 r.countsToPeak ++ beBytes 1 r.amplitude
  ++ beBytes 4 r.energy ++ beBytes 4 r.pressure ++ beBytes 2 r.flags.number ++ beBytes 1 r.presence
  ++ optionalPart (r.eventId.map BitVec.toNat) ++ optionalPart r.gap ++ optionalPart (r.segId.map BitVec.toNat)

/-- R201: a member of an event record. -/
def EventMember.bytes (m : EventMember) : List Byte :=
  beBytes 1 m.channel.val ++ counterBytes m.hitId ++ beBytes 2 m.dt ++ beBytes 1 m.amplitude

/-- R201: the flag byte of an event record. -/
def EventRecord.flags (e : EventRecord) : Nat :=
  flagBit e.belowPeakLoad 0 + flagBit e.locClamped 1 + flagBit e.partialMark 2 + flagBit e.pStale 3

/-- R201: an event record. -/
def EventRecord.bytes (e : EventRecord) : List Byte :=
  counterBytes e.eventId ++ timeBytes e.openTime ++ beBytes 1 e.first.val ++ beBytes 1 e.zone.val ++ beBytes 4 e.pressure
  ++ beBytes 1 e.flags ++ beBytes 1 e.c1.val ++ beBytes 1 e.c2.val ++ beBytes 2 e.xMm ++ beBytes 1 e.members.length
  ++ e.members.flatMap EventMember.bytes

/-- R201: one channel of an interval record. -/
def IntervalChannel.bytes (c : IntervalChannel) : List Byte :=
  [optByte c.aslDb] ++ counterBytes c.opened ++ counterBytes c.lost

/-- R201: the flag byte of an interval record. -/
def IntervalRecord.flags (i : IntervalRecord) : Nat :=
  flagBit i.pStale 0 + flagBit i.prevReplaced 1 + flagBit i.digest.isSome 2

/-- R201: an interval record. -/
def IntervalRecord.bytes (i : IntervalRecord) : List Byte :=
  timeBytes i.time ++ beBytes 4 i.pressure ++ beBytes 4 i.pMax ++ beBytes 1 i.phase.number ++ beBytes 1 i.shedLevel
  ++ beBytes 1 i.acqState ++ beBytes 1 i.flags ++ i.perChannel.toList.flatMap IntervalChannel.bytes
  ++ counterBytes i.eventsCompleted ++ i.holdCounts.toList.flatMap (beBytes 2) ++ optionalPart (i.digest.map BitVec.toNat)

/-- R201: a notice, 10 bytes. -/
def Notice.bytes (n : Notice) : List Byte :=
  beBytes 1 n.factor.group.number ++ beBytes 1 n.factor.number ++ beBytes 1 n.index ++ [optByte n.state] ++ timeBytes n.time

/-- R201: the flag byte of a waveform piece. -/
def Piece.flags (p : Piece) : Nat := flagBit p.last 0 + flagBit p.cut 1

/-- R201: a waveform piece. -/
def Piece.bytes (p : Piece) : List Byte :=
  counterBytes p.segId ++ beBytes 1 p.channel.val ++ counterBytes p.hitId ++ beBytes 1 p.index ++ beBytes 1 p.flags
  ++ timeBytes p.firstTime ++ beBytes 2 p.samples.length ++ p.samples.flatMap fun s => beBytes 2 s.toNat

/-- R201: a response: tag, kind, code and body. -/
def Response.bytes (r : Response) : List Byte := r.tag :: r.kind :: byte r.code.number :: r.body

/-- R200: the kind of an uplink frame. -/
def UplinkFrame.kind (f : UplinkFrame) : Byte :=
  match f with
  | .response _ => 0x80
  | .notices _ => 0x81
  | .event _ => 0x82
  | .hits _ => 0x83
  | .interval _ => 0x84
  | .waveform _ => 0x85

/-- R201: the payload of an uplink frame. -/
def UplinkFrame.payload (f : UplinkFrame) : List Byte :=
  match f with
  | .response r => r.bytes
  | .notices ns => beBytes 1 ns.length ++ ns.flatMap Notice.bytes
  | .event e => e.bytes
  | .hits hs => beBytes 1 hs.length ++ hs.flatMap HitRecord.bytes
  | .interval i => i.bytes
  | .waveform p => p.bytes

/-- R200, R201: the bytes of the frame in flight as they are sent; absent while the transmitter is IDLE. -/
def State.uplink (s : State) : Option (List Byte) := s.rq.tx.map fun f => frameBytes f.kind f.payload

end Sys2Proof.Machine
end

