-- ==== Sys2Proof/Machine/Status.lean ====
section
/-! DEFINITION. The status pages (R174), item by item in the order of the table of section 10.5. Widths that section 13.4 does
not fix are log 15. -/

namespace Sys2Proof.Machine

/-- A count: four bytes (R201). -/
def countBytes (n : Nat) : List Byte := beBytes 4 n

/-- A flag: one byte (R201). -/
def flagByte (b : Bool) : List Byte := [byte (flagBit b 0)]

/-- Section 1.1: the number of a synthesizer state. -/
def Synth.number (s : Synth) : Nat :=
  match s with
  | .stopped => 0
  | .locking _ => 1
  | .locked => 2
  | .lost => 3

/-- Section 1.3: the number of a fault cause. -/
def LaneCause.number (c : LaneCause) : Nat :=
  match c with
  | .noSync => 0
  | .framing => 1
  | .silent => 2
  | .stuck => 3

/-- Section 1.3: the number of a lane state. -/
def LaneState.number (s : LaneState) : Nat :=
  match s with
  | .off => 0
  | .syncing => 1
  | .settling => 2
  | .live _ => 3
  | .faulted _ => 4

/-- Section 1.3: the fault cause while FAULTED. -/
def LaneState.cause (s : LaneState) : Option Nat :=
  match s with
  | .faulted c => some c.number
  | .off | .syncing | .settling | .live _ => none

/-- Section 1.4: the number of the pressure lane's state. -/
def PlState.number (s : PlState) : Nat :=
  match s with
  | .syncing => 0
  | .live => 1
  | .stale => 2

/-- Section 3.1: the number of a detector's machine state. -/
def DetState.number (s : DetState) : Nat :=
  match s with
  | .idle => 0
  | .inHit _ => 1
  | .rearmHold => 2
  | .blocked => 3

/-- R5, R8: synthesizer state and Test Time. -/
def clockItems (s : State) : List Byte := beBytes 1 s.synth.number ++ timeBytes s.tt

/-- R19: one lane. -/
def laneItems (l : Lane) : List Byte :=
  beBytes 1 l.state.number ++ [optByte l.state.cause, optByte (l.lastFault.map LaneCause.number)]

/-- R21: the pressure lane. -/
def plItems (s : State) : List Byte := beBytes 1 s.pl.state.number ++ counterBytes s.pl.framingErrors

/-- R172: the acquisition state, the STARTING substep and the target. -/
def acqBytes (s : State) : List Byte := [byte s.acq.number, optByte s.acq.substepNumber, optByte s.acq.targetNumber]

/-- R23: the Acquisition Controller. -/
def acqItems (s : State) : List Byte := acqBytes s ++ [optByte (s.lastFail.map StartFailure.number)]

/-- R61: one detector. -/
def detectorItems (d : Detector) : List Byte :=
  beBytes 1 d.machine.number ++ beBytes 1 d.thrDb ++ beBytes 2 d.thrCode ++ [optByte d.noise] ++ flagByte d.waiting.isSome

/-- R44, R61: the next hit_id and its exhaustion. After exhaustion the value is a free value (log 16). -/
def hitIdItems (s : State) : List Byte :=
  counterBytes (s.nextHit.getD Config.exhaustedHitId) ++ flagByte s.nextHit.isNone

/-- R92: one context. -/
def contextItems (o : Option Context) : List Byte :=
  match o with
  | none => [0, 255] ++ beBytes 12 0 ++ [0, 0]
  | some c =>
    [byte (if c.settling then 2 else 1), byte c.first.val] ++ timeBytes c.openTime ++ timeBytes c.windowEnd
    ++ [byte c.members.length, byte (c.members.countP Member.closed)]

/-- R92, R117: the contexts, the next event_id and the counters of the assembler. -/
def assemblerItems (s : State) : List Byte :=
  s.asm.contexts.toList.flatMap contextItems ++ counterBytes s.asm.nextEvent ++ counterBytes s.asm.eventsQueued
  ++ counterBytes s.asm.eventsLost ++ counterBytes s.asm.eventsDissolved ++ counterBytes s.asm.contextsReleased
  ++ counterBytes s.asm.hitsNoContext

/-- R122: the load history. -/
def historyItems (s : State) : List Byte :=
  countBytes s.hist.pressure ++ countBytes s.hist.pMax ++ beBytes 1 s.hist.phase.number
  ++ s.hist.holdCounts.toList.flatMap countBytes

/-- R132: the interval timer, its period in milliseconds with all ones for OFF. -/
def timerItems (s : State) : List Byte :=
  flagByte s.timer.period.isSome ++ countBytes ((s.timer.period.map (· / 2000)).getD 4294967295) ++ countBytes s.timer.tickCount
  ++ flagByte s.timer.slot.isSome ++ counterBytes s.timer.replaced

/-- The descriptors in a state (R145). -/
def WaveStore.countIn (w : WaveStore) (st : SegState) : Nat :=
  w.segments.toList.countP fun o => match o with | some g => g.state == st | none => false

/-- R145: the Waveform Store. -/
def waveItems (s : State) : List Byte :=
  counterBytes s.wave.captured ++ counterBytes s.wave.skipped ++ counterBytes s.wave.discarded
  ++ counterBytes s.wave.sent ++ counterBytes s.wave.pieces ++ counterBytes s.wave.nextSeg ++ countBytes s.wave.freeBlocks
  ++ countBytes s.wave.freeDescriptors ++ countBytes s.wave.sendList.length ++ countBytes (s.wave.countIn .filling)
  ++ countBytes (s.wave.countIn .waitEvent)

/-- R158: the wait of the Hit Queue's head. -/
def State.headWait (s : State) : Option Nat := s.rq.hits.head?.map fun q => s.now - q.entryTime

/-- R166, R201: the wait in four bytes, all ones for none. A wait that would read as none or not fit is a free value (log 17). -/
def waitBytes (wait : Option Nat) : List Byte :=
  match wait with
  | none => countBytes 4294967295
  | some w => if w < 4294967295 then countBytes w else counterBytes (Config.longWait w)

/-- R166: the Record Queues and the transmitter. The transmitter state reads 0 for IDLE and 1 for SENDING, and the readiness report 1
for ready (log 15). -/
def queueItems (s : State) : List Byte :=
  beBytes 1 s.rq.shed.val ++ countBytes s.rq.hits.length ++ countBytes s.rq.events.length ++ countBytes s.rq.notices.length
  ++ countBytes s.rq.responses.length ++ waitBytes s.headWait ++ flagByte s.rq.tx.isSome ++ flagByte s.rq.ready
  ++ counterBytes s.rq.framesSent

/-- R180: the link port. -/
def linkItems (s : State) : List Byte :=
  countBytes s.link.inbound.length ++ counterBytes s.link.frameErrors ++ counterBytes s.link.dropped
  ++ counterBytes s.link.taken

/-- R184: the loader, with 255 in its four fields while IDLE. -/
def loaderItems (s : State) : List Byte :=
  match s.loader with
  | none => [0, 255, 255, 255, 255]
  | some l => [1, byte l.table.number, byte l.first, byte l.expected, byte l.staged.length]

/-- R183, R192: the table CRCs, the test lock, and the digest while it is on. -/
def lockItems (s : State) : List Byte :=
  s.crcs.bytes ++ flagByte s.lock.isSome
  ++ (match s.lock with | some digest => counterBytes digest | none => [])

/-- STATUS page 0. -/
def page0 (s : State) : List Byte :=
  clockItems s ++ s.lanes.toList.flatMap laneItems ++ plItems s ++ acqItems s ++ s.dets.toList.flatMap detectorItems
  ++ hitIdItems s ++ assemblerItems s ++ historyItems s ++ timerItems s ++ waveItems s ++ queueItems s ++ linkItems s
  ++ loaderItems s ++ lockItems s

/-- STATUS page 1 (R199): factors, factor enables, group enables, summaries. -/
def page1 (s : State) : List Byte :=
  s.cond.factors.layout ++ s.cond.enables.layout ++ beBytes 1 s.cond.groupEnables.toNat ++ beBytes 1 s.cond.summaries

/-- One channel of STATUS page 2 or 3: framing_errors, fault_entries, hits_opened, continuous run, hits_filtered, hits_guarded,
hits_queued, hits_shed, hits_lost, pending gap, hits_held. -/
def accountItems (s : State) (ch : Channel) : List Byte :=
  let k := s.rq.counts[ch]
  counterBytes s.lanes[ch].framingErrors ++ counterBytes s.lanes[ch].faultEntries ++ counterBytes s.dets[ch].hitsOpened
  ++ countBytes s.dets[ch].contRun ++ counterBytes k.filtered ++ counterBytes k.guarded ++ counterBytes k.queued
  ++ counterBytes k.shed ++ counterBytes k.lost ++ countBytes k.gap ++ countBytes (s.hitsHeld ch)

/-- STATUS page 2, CH0 to CH7. -/
def page2 (s : State) : List Byte := (channels.take 8).flatMap (accountItems s)

/-- STATUS page 3, CH8 to CH15. -/
def page3 (s : State) : List Byte := (channels.drop 8).flatMap (accountItems s)

/-- R174: the snapshot of a page, its number first; absent for a page above 3. -/
def statusPage (page : Byte) (s : State) : Option (List Byte) :=
  match page.toNat with
  | 0 => some (page :: page0 s)
  | 1 => some (page :: page1 s)
  | 2 => some (page :: page2 s)
  | 3 => some (page :: page3 s)
  | _ => none

end Sys2Proof.Machine
end

