-- ==== Sys2Proof/Machine/Scheduler.lean ====
section
/-! DEFINITION. The uplink transmitter and the scheduler (sections 9.4 and 9.5). -/

namespace Sys2Proof.Machine

/-- R155: the transmitter is SENDING this frame. -/
def startFrame (f : UplinkFrame) (s : State) : State := { s with rq := { s.rq with tx := some f } }

/-- R155: the transmitter is IDLE and the held report is ready, so that a frame can start. -/
def State.canStart (s : State) : Bool := s.rq.tx.isNone && s.rq.ready

/-- R158: the head of the Hit Queue has waited at least flush_us. -/
def State.flushed (s : State) : Bool :=
  match s.headWait with
  | some w => decide (s.tables.setup.flushUs ≤ w)
  | none => false

/-- R158: the Hit Queue is eligible. hit_trigger is at least 1, so an empty queue never is. -/
def State.hitsEligible (s : State) : Bool :=
  !s.rq.hits.isEmpty && (decide (s.tables.setup.hitTrigger ≤ s.rq.hits.length) || s.flushed)

/-- The most records of one HITS frame, and the most notices of one NOTICES frame (section 9.1). -/
def hitsPerFrame : Nat := 8

/-- The most notices of one NOTICES frame (R154). -/
def noticesPerFrame : Nat := 4

/-- R157, R161: a frame of hit records starts; the occupancy changes once and the shed level is evaluated once. -/
def startHits (s : State) : State :=
  let taken := s.rq.hits.take hitsPerFrame
  evalShed (startFrame (.hits (taken.map QueuedHit.record))
    { s with rq := { s.rq with hits := s.rq.hits.drop hitsPerFrame } })

/-- R144, R161: a frame with the next piece of a segment starts. -/
def startPiece (i : Fin 64) (g : Segment) (s : State) : State :=
  evalShed (startFrame (.waveform g.piece) (s.modWave fun w => w.takePiece i g))

/-- R157, order 6: the waveform send list. -/
def scheduleWaveform (s : State) : State :=
  match s.wave.sendList with
  | [] => s
  | i :: _ =>
    match s.wave.segments[i] with
    | some g => startPiece i g s
    | none => s

/-- R157, order 5 and 6: the interval slot, then the send list. -/
def scheduleInterval (s : State) : State :=
  match s.timer.slot with
  | some r => startFrame (.interval r) { s with timer := { s.timer with slot := none } }
  | none => scheduleWaveform s

/-- R157, order 4 to 6. -/
def scheduleHits (s : State) : State := if s.hitsEligible then startHits s else scheduleInterval s

/-- R157, order 3 to 6. -/
def scheduleEvents (s : State) : State :=
  match s.rq.events with
  | e :: rest => startFrame (.event e) { s with rq := { s.rq with events := rest } }
  | [] => scheduleHits s

/-- R157, order 2 to 6. -/
def scheduleNotices (s : State) : State :=
  if s.rq.notices.isEmpty then scheduleEvents s
  else
    startFrame (.notices (s.rq.notices.take noticesPerFrame))
      { s with rq := { s.rq with notices := s.rq.notices.drop noticesPerFrame } }

/-- R157, order 1 to 6: a frame starts from the first eligible source. -/
def scheduleFrom (s : State) : State :=
  match s.rq.responses with
  | r :: rest => startFrame (.response r) { s with rq := { s.rq with responses := rest } }
  | [] => scheduleNotices s

/-- R157: the scheduler: a frame starts where the transmitter is IDLE, the receiver is ready and a source is eligible. -/
def schedule (s : State) : State := if s.canStart then scheduleFrom s else s

/-- R155: the last part of the frame has left. -/
def completeFrame (s : State) : State :=
  match s.rq.tx with
  | some _ => { s with rq := { s.rq with tx := none, framesSent := s.rq.framesSent + 1 } }
  | none => s

end Sys2Proof.Machine
end

