-- ==== Sys2Proof/Machine/Requests.lean ====
section
/-! DEFINITION. The link port, the inbound request queue and the request interpreter (Chapter 10). -/

namespace Sys2Proof.Machine

/-- The capacity of the Response Queue (section 9.1). -/
def responseCapacity : Nat := 4

/-- The capacity of the inbound request queue (R168). -/
def inboundCapacity : Nat := 8

/-! ## Soft reset (R178) -/

/-- R165, R156: the Record Queues after a soft reset: the frame in flight and the readiness report stay. -/
def RecordQueues.softReset (q : RecordQueues) : RecordQueues := { RecordQueues.reset with tx := q.tx, ready := q.ready }

/-- R178: every block in its soft-reset condition. The link clock is no block's state and runs on (log 4). -/
def softReset (s : State) : State :=
  { State.reset with
    now := s.now
    dets := tabulate fun ch => Detector.reset s.tables.channel[ch]
    hist := LoadHistory.reset s.hist.phase
    rq := s.rq.softReset
    tables := s.tables
    crcs := s.crcs
    lock := s.lock
    cond := { s.cond with factors := FactorBits.none }
    lastReset := .soft
    pending := s.pending }

/-! ## The owners' answers -/

/-- An answer without a body. -/
def Answer.plain (s : State) (c : Code) : Answer := { state := s, code := c, body := [] }

/-- R172: the answer of the Acquisition Controller carries state, substep and target as they stand after the taking. -/
def Answer.controlled (s : State) (c : Code) : Answer := { state := s, code := c, body := acqBytes s }

/-- R24: GO(STANDBY). -/
def goStandby (s : State) : Answer :=
  match s.acq with
  | .off => Answer.controlled (enterStarting .standby s) .ok
  | .starting .standby _ => Answer.controlled s .already
  | .starting .armed _ => Answer.controlled s .busy
  | .standby => Answer.controlled s .already
  | .learning _ _ => Answer.controlled s .busy
  | .armed => Answer.controlled (enterDraining .standby s) .ok
  | .draining .standby => Answer.controlled s .already
  | .draining .off => Answer.controlled s .busy

/-- R25: GO(ARMED). -/
def goArmed (s : State) : Answer :=
  if s.tables.anyEnabledData then
    match s.acq with
    | .off => Answer.controlled (enterStarting .armed s) .ok
    | .starting .armed _ => Answer.controlled s .already
    | .starting .standby _ => Answer.controlled s .busy
    | .standby => Answer.controlled (enterLearning s) .ok
    | .learning _ _ => Answer.controlled s .already
    | .armed => Answer.controlled s .already
    | .draining _ => Answer.controlled s .busy
  else Answer.controlled s .noChannel

/-- R26: GO(OFF). -/
def goOff (s : State) : Answer :=
  match s.acq with
  | .off => Answer.controlled s .already
  | .starting _ _ | .standby | .learning _ _ => Answer.controlled (reachState (enterOff .off s)) .ok
  | .armed => Answer.controlled (enterDraining .off s) .ok
  | .draining .standby => Answer.controlled { s with acq := .draining .off } .ok
  | .draining .off => Answer.controlled s .already

/-- R27: ABORT. -/
def abort (s : State) : Answer := Answer.controlled (raise .aborted (enterOff .abort s)) .ok

/-- R7: ZERO_TIME. -/
def zeroTime (s : State) : Answer :=
  if s.acq = .off ∨ s.acq = .standby then Answer.plain { s with tt := 0 } .ok else Answer.plain s .state

/-- R171: the kind of the last reset, POWER_ON 0 and SOFT 1 (section 13.4). -/
def ResetKind.number (k : ResetKind) : Nat :=
  match k with
  | .powerOn => 0
  | .soft => 1

/-- The capacities of section 0.6, in table order. -/
def capacities : List Nat := [16, 1, 16, 64, 8, 4, 2, 256, 32, 16, 4, 8, 1, 1024, 256, 64, 1, 1]

/-- R171: the identity that IDENTIFY answers (section 13.4). -/
def identityBytes (s : State) : List Byte :=
  beBytes 2 0x0A16 ++ [1, 1] ++ capacities.flatMap (beBytes 2) ++ [byte s.lastReset.number]

/-- R171: IDENTIFY. -/
def identify (s : State) : Answer := { state := s, code := .ok, body := identityBytes s }

/-- R174: STATUS_READ of a page. -/
def statusRead (page : Byte) (s : State) : Answer :=
  match statusPage page s with
  | some body => { state := s, code := .ok, body := body }
  | none => Answer.plain s .range

/-- R175: CLEAR_CONDITIONS with a mask that names factors of the part. -/
def clearConditions (m : FactorBits) (s : State) : State :=
  { s with cond := { s.cond with factors := s.cond.factors.without m } }

/-- R176: SET_ENABLES of a group. -/
def setEnables (g : Group) (on : Bool) (m : FactorBits) (s : State) : State :=
  { s with cond := { s.cond with enables := s.cond.enables.withGroup m g
                                 groupEnables := setBit s.cond.groupEnables g.number on } }

/-- R123: SET_PHASE. -/
def setPhase (p : Phase) (s : State) : Answer :=
  if s.hist.phase = p then Answer.plain s .already else Answer.plain { s with hist := s.hist.setPhase p } .ok

/-- R121, R177: RESET_LOAD_HISTORY answers the new P_max. -/
def resetLoadHistory (s : State) : Answer :=
  let s := { s with hist := s.hist.resetPeak }
  { state := s, code := .ok, body := beBytes 4 s.hist.pMax }

/-! ## Judgement (R170) -/

/-- Section 13.1: the phase of a phase byte. -/
def phaseOf (b : Byte) : Option Phase :=
  match b.toNat with
  | 0 => some .ramp
  | 1 => some .hold
  | 2 => some .unload
  | _ => none

/-- R170: a kind without fields. -/
def judgeEmpty (f : State → Answer) (args : List Byte) (s : State) : Answer :=
  match args with
  | [] => f s
  | _ :: _ => Answer.plain s .badRequest

/-- R170, R172: GO. Its refusals at stages 1 and 2 carry the controller's body too. -/
def judgeGo (args : List Byte) (s : State) : Answer :=
  match args with
  | [target] =>
    match target.toNat with
    | 0 => goOff s
    | 1 => goStandby s
    | 2 => goArmed s
    | _ => Answer.controlled s .range
  | _ => Answer.controlled s .badRequest

/-- R170, R172: ABORT. -/
def judgeAbort (args : List Byte) (s : State) : Answer :=
  match args with
  | [] => abort s
  | _ :: _ => Answer.controlled s .badRequest

/-- R170: a kind that carries table, first and count. A table byte beyond the five is refused RANGE (log 18). -/
def judgeTable (f : TableId → Nat → Nat → State → Answer) (args : List Byte) (s : State) : Answer :=
  match args with
  | [table, first, count] =>
    match tableOfByte table with
    | some t => f t first.toNat count.toNat s
    | none => Answer.plain s .range
  | _ => Answer.plain s .badRequest

/-- R170: LOAD_DATA, with its own length rule. -/
def judgeLoadData (args : List Byte) (s : State) : Answer :=
  match args with
  | table :: count :: entries =>
    match tableOfByte table with
    | none => Answer.plain s .range
    | some t =>
      if count.toNat < 1 ∨ 4 < count.toNat then Answer.plain s .range
      else if entries.length = count.toNat * t.entrySize then loadData t count.toNat entries s
      else Answer.plain s .badRequest
  | [] | [_] => Answer.plain s .badRequest

/-- R170, R174: STATUS_READ. -/
def judgeStatus (args : List Byte) (s : State) : Answer :=
  match args with
  | [page] => statusRead page s
  | _ => Answer.plain s .badRequest

/-- R170, R175: CLEAR_CONDITIONS. -/
def judgeClear (args : List Byte) (s : State) : Answer :=
  if args.length = 15 then
    match factorBitsOf args with
    | some m => Answer.plain (clearConditions m s) .ok
    | none => Answer.plain s .range
  else Answer.plain s .badRequest

/-- R176: the range of SET_ENABLES: a group of the part, a group enable of 0 or 1, and factors of the group. -/
def rangeEnables (group on : Byte) (enables : List Byte) (s : State) : Answer :=
  match groupOf group.toNat with
  | none => Answer.plain s .range
  | some g =>
    match enablesOf g enables with
    | none => Answer.plain s .range
    | some m => if on.toNat < 2 then Answer.plain (setEnables g (on == 1) m s) .ok else Answer.plain s .range

/-- R170, R176: SET_ENABLES. -/
def judgeEnables (args : List Byte) (s : State) : Answer :=
  match args with
  | group :: on :: enables =>
    if enables.length = 8 then rangeEnables group on enables s else Answer.plain s .badRequest
  | [] | [_] => Answer.plain s .badRequest

/-- R170, R177: SET_PHASE. -/
def judgePhase (args : List Byte) (s : State) : Answer :=
  match args with
  | [phase] =>
    match phaseOf phase with
    | some p => setPhase p s
    | none => Answer.plain s .range
  | _ => Answer.plain s .badRequest

/-- R169, R170: a request judged by its kind (R200) and passed to its owner. The inbound queue holds no other kind (R167). -/
def judge (r : Request) (s : State) : Answer :=
  match r.kind.toNat with
  | 0x01 => judgeEmpty identify r.args s
  | 0x02 => judgeGo r.args s
  | 0x03 => judgeAbort r.args s
  | 0x04 => judgeEmpty zeroTime r.args s
  | 0x05 => judgeTable loadBegin r.args s
  | 0x06 => judgeLoadData r.args s
  | 0x07 => judgeEmpty loadAbort r.args s
  | 0x08 => judgeTable readTable r.args s
  | 0x09 => judgeEmpty lockTest r.args s
  | 0x0A => judgeEmpty unlockTest r.args s
  | 0x0B => judgeStatus r.args s
  | 0x0C => judgeClear r.args s
  | 0x0D => judgeEnables r.args s
  | 0x0E => judgePhase r.args s
  | 0x0F => judgeEmpty resetLoadHistory r.args s
  | 0x10 => judgeEmpty (fun s => Answer.plain (softReset s) .ok) r.args s
  | _ => Answer.plain s .badRequest

/-! ## The interpreter (R169) -/

/-- R169: the one response of a taken request joins the tail of the Response Queue. -/
def respond (r : Request) (a : Answer) : State :=
  { a.state with rq := { a.state.rq with
      responses := a.state.rq.responses ++ [{ tag := r.tag, kind := r.kind, code := a.code, body := a.body }] } }

/-- R170: requests_taken advances at the start of each taking. -/
def countTaken (s : State) : State := { s with link := { s.link with taken := s.link.taken + 1 } }

/-- R169: a request taken: counted, judged, answered. -/
def takeRequest (r : Request) (s : State) : State := respond r (judge r (countTaken s))

/-- R157, R169: the scheduler and the interpreter act until neither can: at most `n` requests are taken. The scheduler is called
after each event, so a request that waits for room is taken once a frame start removes a response. -/
def pump : Nat → State → State
  | 0, s => schedule s
  | n + 1, s =>
    let s := schedule s
    match s.link.inbound with
    | [] => s
    | r :: rest =>
      if s.rq.responses.length < responseCapacity then
        pump n (takeRequest r { s with link := { s.link with inbound := rest } })
      else s

/-- The end of every event: the scheduler is called, and the interpreter takes what it can (log 7). -/
def finish (s : State) : State := pump s.link.inbound.length s

/-! ## The link port -/

/-- R168: a good request offered to the inbound request queue. -/
def offerRequest (r : Request) (s : State) : State :=
  if s.link.inbound.length < inboundCapacity then
    { s with link := { s.link with inbound := s.link.inbound ++ [r] } }
  else raise .requestDropped { s with link := { s.link with dropped := s.link.dropped + 1 } }

/-- R167: a bad frame. -/
def badFrame (s : State) : State :=
  raise .frameError { s with link := { s.link with frameErrors := s.link.frameErrors + 1 } }

/-- R200: the request kinds. -/
def isRequestKind (k : Byte) : Bool := decide (1 ≤ k.toNat ∧ k.toNat ≤ 0x10)

/-- R167: the good request that the bytes after a start marker spell; absent for a bad frame. -/
def goodRequest (wire : List Byte) : Option Request :=
  match frameOf wire with
  | none => none
  | some (kind, payload, check) =>
    match payload with
    | [] => none
    | tag :: args =>
      if payload.length ≤ maxRequestPayload ∧ isRequestKind kind ∧ check = crc16 (checkedBytes kind payload) then
        some { kind := kind, tag := tag, args := args }
      else none

/-- R167: a downlink frame that has ended is judged. -/
def endFrame (wire : List Byte) (s : State) : State :=
  match goodRequest wire with
  | some r => offerRequest r s
  | none => badFrame s

/-- A good request arrives, and the part does what it can (log 1). -/
def submit (r : Request) (s : State) : State := finish (offerRequest r s)

end Sys2Proof.Machine
end

