-- ==== Sys2Proof/Machine/Events.lean ====
section
/-! DEFINITION. The events that the part takes by itself: the expiries of tick counts, each when due, and the passing of the link
clock with its three timers. -/

namespace Sys2Proof.Machine

/-- An expiry taken when it is due, as an event of its own; otherwise nothing (log 3). -/
def takeDue (due : State → Bool) (effect : State → State) (s : State) : State :=
  if due s then finish (effect s) else s

/-! ## Expiries of tick counts -/

/-- R11, R17: the end of a sync search without word sync. -/
def failSync (ch : Channel) (s : State) : State := laneFaulted ch false (s.modLane ch (Lane.toFaulted .noSync))

/-- R11: LANE_SYNC_TIMEOUT of a channel is due. -/
def syncTimeoutDue (ch : Channel) (s : State) : Bool := s.lanes[ch].syncDue

/-- R12: the end of a lane's settle period. -/
def settleLane (ch : Channel) (s : State) : State := s.modLane ch Lane.toLive

/-- R12: LANE_SETTLE_END of a channel is due. -/
def laneSettleDue (ch : Channel) (s : State) : Bool := s.lanes[ch].settleDue

/-- R51, R57: the end of a rearm hold: IDLE, and a waiting entry is applied. -/
def endRearm (ch : Channel) (s : State) : State :=
  applyWaiting ch (s.modDet ch fun d => { d with machine := .idle })

/-- R51: REARM_EXPIRY of a channel is due. -/
def rearmDue (ch : Channel) (s : State) : Bool := s.dets[ch].rearmDue

/-- The end of the SYNCING substep, in STARTING only (R31). -/
def endSyncingSubstep (s : State) : State :=
  match s.acq with
  | .starting t _ => endSyncing t s
  | .off | .standby | .learning _ _ | .armed | .draining _ => s

/-- The end of the SETTLING substep, in STARTING only (R31). -/
def endSettlingSubstep (s : State) : State :=
  match s.acq with
  | .starting t _ => endSettling t s
  | .off | .standby | .learning _ _ | .armed | .draining _ => s

/-- R99: WINDOW_EXPIRY is due: a window has ended at the start of the next tick. -/
def State.windowDue (s : State) : Bool :=
  s.ticking && !(s.asm.select fun c => c.windowEnded s.tt).isEmpty

/-- R3, R6: the tick in progress completes after a stop request at its start: its row is stamped and Test Time advances. Every lane is
OFF by then (R10), so the row delivers no sample, and of the counts of a tick those of the receivers, the guards (R84) and the
rearm holds (R42) are left (log 31). -/
def lastTick (s : State) : State :=
  advanceTime
    { s with
      lanes := tabulate fun ch => s.lanes[ch].countTick
      dets := tabulate fun ch => s.dets[ch].lowerRearm
      guard := lowerGuards s.guard }

/-- R37, R3: the drain test at the start of a tick. A drain that ends there with target OFF stops the clock after that tick. -/
def drainAtTickStart (s : State) : State :=
  let t := checkDrain s
  if t.ticking then t else lastTick t

/-- R99, R37: the windows that have ended expire, and a drain is tested. -/
def expireDueWindows (s : State) : State := drainAtTickStart (expireWindows s)

/-- One expiry of every channel, in ascending channel number. -/
def takeEach (due : Channel → State → Bool) (effect : Channel → State → State) (s : State) : State :=
  channels.foldl (fun s ch => takeDue (due ch) (effect ch) s) s

/-- LANE_SYNC_TIMEOUT of every channel that is due. -/
def takeSyncTimeouts (s : State) : State := takeEach syncTimeoutDue failSync s

/-- R30, R31: the end of the SYNCING substep comes after the NO_SYNC faults of the same tick. -/
def takeSyncingEnd (s : State) : State := takeDue State.syncingDue endSyncingSubstep (takeSyncTimeouts s)

/-- The expiries that no tick may pass, in one order (log 9): those of the lanes and detectors, the interval, the slot, the
controller's, and the windows at the start of the tick. -/
def tickExpiries (s : State) : State :=
  let s := takeEach rearmDue endRearm (takeEach laneSettleDue settleLane (takeSyncTimeouts s))
  let s := takeDue State.plSlotDue endSlot (takeDue State.intervalDue expireInterval s)
  let s := takeDue State.settlingDue endSettlingSubstep (takeDue State.syncingDue endSyncingSubstep s)
  takeDue State.windowDue expireDueWindows (takeDue State.learningDue endLearning s)

/-! ## One tick -/

/-- R42, R37, R6: a row with the drain test at its end (log 10), and Test Time's advance. A drain that ends in the last row of an
interval comes before that interval's expiry (log 35), and a drain to OFF that ends in the last row of a pressure slot or of a sync
search comes before the end of that slot or search, which is then not taken (log 37). -/
def tickRow (words : Vector LaneWord 16) (s : State) : State := advanceTime (checkDrain (rowTaken words s))

/-- R6, R42: one tick: what is due comes first, then the row, if the synthesizer is still LOCKED. -/
def takeTick (words : Vector LaneWord 16) (s : State) : State :=
  if s.ticking then
    let s := tickExpiries s
    if s.ticking then finish (tickRow words s) else s
  else s

/-! ## The link clock -/

/-- The timers that run on the link clock. -/
inductive LinkTimer where
  | lock
  | load
  | flush
  deriving DecidableEq, Repr

/-- R1: the end of the lock timer's 20 ms. -/
def State.lockDeadline (s : State) : Option Nat :=
  match s.synth with
  | .locking e => some e
  | .stopped | .locked | .lost => none

/-- R187: the end of the loader's idle second. -/
def State.loadDeadline (s : State) : Option Nat := s.loader.map Load.expiry

/-- R158: the moment the head's wait reaches flush_us. -/
def State.flushMoment (s : State) : Option Nat := s.rq.hits.head?.map fun q => q.entryTime + s.tables.setup.flushUs

/-- R158: the flush expiry calls the scheduler only where a frame can start. -/
def State.flushDeadline (s : State) : Option Nat := if s.canStart then s.flushMoment else none

/-- The moment at which a timer of the link clock expires, while it runs. -/
def LinkTimer.deadline (t : LinkTimer) (s : State) : Option Nat :=
  match t with
  | .lock => s.lockDeadline
  | .load => s.loadDeadline
  | .flush => s.flushDeadline

/-- What the expiry of a timer does. -/
def LinkTimer.effect (t : LinkTimer) (s : State) : State :=
  match t with
  | .lock => failLock s
  | .load => abandonLoad s
  | .flush => s

/-- The earlier of two running timers, the first where they are equal (log 4). -/
def soonerTimer (a b : Option (LinkTimer × Nat)) : Option (LinkTimer × Nat) :=
  match a, b with
  | some x, some y => if y.2 < x.2 then some y else some x
  | some x, none => some x
  | none, y => y

/-- A timer with its deadline, while it runs. -/
def LinkTimer.running (t : LinkTimer) (s : State) : Option (LinkTimer × Nat) := (t.deadline s).map fun d => (t, d)

/-- The timer that expires next. -/
def State.nextTimer (s : State) : Option (LinkTimer × Nat) :=
  soonerTimer (soonerTimer (LinkTimer.lock.running s) (LinkTimer.load.running s)) (LinkTimer.flush.running s)

/-- The link clock stands at a moment; it never goes back. -/
def setNow (t : Nat) (s : State) : State := { s with now := max s.now t }

/-- One expiry of the link clock, at its moment. -/
def expireTimer (t : LinkTimer) (d : Nat) (s : State) : State := finish (t.effect (setNow d s))

/-- The link clock passes to a moment, and every timer whose moment lies before it expires on the way, at most `n` of them (log
4). Three expiries empty the three timers. -/
def passLink : Nat → Nat → State → State
  | 0, t, s => setNow t s
  | n + 1, t, s =>
    match s.nextTimer with
    | some (timer, d) => if d < t then passLink n t (expireTimer timer d s) else setNow t s
    | none => setNow t s

/-- The expiries that one passing of the link clock can take. -/
def passFuel : Nat := 4

/-- The expiry of a timer of the link clock, taken now: the clock passes to its moment, and it expires if it still runs. A timer of
the same moment has not expired by then: the commanded one comes first (log 4). -/
def takeTimer (timer : LinkTimer) (s : State) : State :=
  match timer.deadline s with
  | none => s
  | some d =>
    let s := passLink passFuel d s
    if timer.deadline s = some d then expireTimer timer d s else s

/-- R158: the flush expiry: the clock passes to the moment the head's wait reaches flush_us, and the scheduler is called if it
can start a frame. -/
def takeFlush (s : State) : State :=
  match s.flushMoment with
  | none => s
  | some d => finish (passLink passFuel d s)

/-- An empty command queue lets one microsecond of the link clock pass (log 5). -/
def idle (s : State) : State := passLink passFuel (s.now + 1) s

end Sys2Proof.Machine
end

