-- ==== Sys2Proof/Machine/Commands.lean ====
section
/-! DEFINITION. One meaning for each command of spec/opcode_table.json. The family files hold what they share. No meaning stops:
each answers a next state in every state. -/

namespace Sys2Proof.Machine

/-- The outcome of a command. -/
abbrev Result := Host.Outcome State Fault Refusal

/-! ## Resets -/

/-- POWER_ON_RESET (R40, R165): every block at its power-on value. The queue of waiting commands is outside the part. -/
def execPowerOnReset (s : State) : Result := .next { State.reset with pending := s.pending }

/-! ## Requests. Each is a good request of its kind that arrives at the inbound queue (log 1). -/

/-- IDENTIFY (R171). -/
def execIdentify (tag : Byte) (s : State) : Result := .next (submit { kind := 0x01, tag := tag, args := [] } s)

/-- GO(STANDBY) (R24). -/
def execGoStandby (tag : Byte) (s : State) : Result := .next (submit { kind := 0x02, tag := tag, args := [1] } s)

/-- GO(ARMED) (R25). -/
def execGoArmed (tag : Byte) (s : State) : Result := .next (submit { kind := 0x02, tag := tag, args := [2] } s)

/-- GO(OFF) (R26). -/
def execGoOff (tag : Byte) (s : State) : Result := .next (submit { kind := 0x02, tag := tag, args := [0] } s)

/-- ABORT (R27). -/
def execAbort (tag : Byte) (s : State) : Result := .next (submit { kind := 0x03, tag := tag, args := [] } s)

/-- ZERO_TIME (R7). -/
def execZeroTime (tag : Byte) (s : State) : Result := .next (submit { kind := 0x04, tag := tag, args := [] } s)

/-- LOAD_BEGIN (R184). -/
def execLoadBegin (tag table first count : Byte) (s : State) : Result :=
  .next (submit { kind := 0x05, tag := tag, args := [table, first, count] } s)

/-- LOAD_DATA (R186). -/
def execLoadData (tag table count : Byte) (entries : List Byte) (s : State) : Result :=
  .next (submit { kind := 0x06, tag := tag, args := table :: count :: entries } s)

/-- LOAD_ABORT (R187). -/
def execLoadAbort (tag : Byte) (s : State) : Result := .next (submit { kind := 0x07, tag := tag, args := [] } s)

/-- READ_TABLE (R193). -/
def execReadTable (tag table first count : Byte) (s : State) : Result :=
  .next (submit { kind := 0x08, tag := tag, args := [table, first, count] } s)

/-- LOCK_TEST (R190). -/
def execLockTest (tag : Byte) (s : State) : Result := .next (submit { kind := 0x09, tag := tag, args := [] } s)

/-- UNLOCK_TEST (R191). -/
def execUnlockTest (tag : Byte) (s : State) : Result := .next (submit { kind := 0x0A, tag := tag, args := [] } s)

/-- STATUS_READ (R174). -/
def execStatusRead (tag page : Byte) (s : State) : Result :=
  .next (submit { kind := 0x0B, tag := tag, args := [page] } s)

/-- CLEAR_CONDITIONS (R175). -/
def execClearConditions (tag : Byte) (masks : List Byte) (s : State) : Result :=
  .next (submit { kind := 0x0C, tag := tag, args := masks } s)

/-- SET_ENABLES (R176). -/
def execSetEnables (tag group groupEnable : Byte) (enables : List Byte) (s : State) : Result :=
  .next (submit { kind := 0x0D, tag := tag, args := group :: groupEnable :: enables } s)

/-- SET_PHASE (R123). -/
def execSetPhase (tag phase : Byte) (s : State) : Result :=
  .next (submit { kind := 0x0E, tag := tag, args := [phase] } s)

/-- RESET_LOAD_HISTORY (R121). -/
def execResetLoadHistory (tag : Byte) (s : State) : Result := .next (submit { kind := 0x0F, tag := tag, args := [] } s)

/-- SOFT_RESET (R178, R179). -/
def execSoftReset (tag : Byte) (s : State) : Result := .next (submit { kind := 0x10, tag := tag, args := [] } s)

/-! ## The link -/

/-- DOWNLINK_FRAME_END (R167, R168). -/
def execDownlinkFrameEnd (wire : List Byte) (s : State) : Result := .next (finish (endFrame wire s))

/-- READINESS_REPORT (R156). -/
def execReadinessReport (ready : Bool) (s : State) : Result :=
  .next (finish { s with rq := { s.rq with ready := ready } })

/-- FRAME_SENT (R155): the transmitter becomes IDLE and the scheduler is called. Nothing is in flight while it is IDLE (log 6). -/
def execFrameSent (s : State) : Result :=
  match s.rq.tx with
  | some _ => .next (finish (completeFrame s))
  | none => .next s

/-- FLUSH_EXPIRY (R158). -/
def execFlushExpiry (s : State) : Result := .next (takeFlush s)

/-- LOAD_IDLE_TIMEOUT (R187). -/
def execLoadIdleTimeout (s : State) : Result := .next (takeTimer .load s)

/-! ## The clock -/

/-- LOCK_ACHIEVED (R2): ignored unless the synthesizer is LOCKING. -/
def execLockAchieved (s : State) : Result :=
  match s.synth with
  | .locking _ => .next (finish (achieveLock s))
  | .stopped | .locked | .lost => .next s

/-- LOCK_TIMER_EXPIRY (R2, R30). -/
def execLockTimerExpiry (s : State) : Result := .next (takeTimer .lock s)

/-- LOCK_LOST (R4, R35): ignored unless the synthesizer is LOCKED. -/
def execLockLost (s : State) : Result :=
  match s.synth with
  | .locked => .next (finish (loseLock s))
  | .stopped | .locking _ | .lost => .next s

/-! ## The tick and its expiries -/

/-- SAMPLE_ROW (R42, R6). Without a LOCKED synthesizer there is no tick (log 6). -/
def execSampleRow (words : Vector LaneWord 16) (s : State) : Result := .next (takeTick words s)

/-- REARM_EXPIRY (R51). -/
def execRearmExpiry (ch : Channel) (s : State) : Result := .next (takeDue (rearmDue ch) (endRearm ch) s)

/-- LANE_SYNC_TIMEOUT (R11). -/
def execLaneSyncTimeout (ch : Channel) (s : State) : Result := .next (takeDue (syncTimeoutDue ch) (failSync ch) s)

/-- LANE_SETTLE_END (R12). -/
def execLaneSettleEnd (ch : Channel) (s : State) : Result := .next (takeDue (laneSettleDue ch) (settleLane ch) s)

/-- SYNCING_SUBSTEP_END (R31). -/
def execSyncingSubstepEnd (s : State) : Result := .next (if s.syncingDue then takeSyncingEnd s else s)

/-- SETTLING_SUBSTEP_END (R31). -/
def execSettlingSubstepEnd (s : State) : Result := .next (takeDue State.settlingDue endSettlingSubstep s)

/-- LEARNING_END (R60). -/
def execLearningEnd (s : State) : Result := .next (takeDue State.learningDue endLearning s)

/-- WINDOW_EXPIRY (R99). -/
def execWindowExpiry (s : State) : Result := .next (takeDue State.windowDue expireDueWindows s)

/-- INTERVAL_EXPIRY (R127). -/
def execIntervalExpiry (s : State) : Result := .next (takeDue State.intervalDue expireInterval s)

/-- PRESSURE_WORD (R20, R21). Without a LOCKED synthesizer no slot runs (log 6). -/
def execPressureWord (word : PressureWord) (s : State) : Result :=
  if s.ticking then .next (finish (takePressureWord word s)) else .next s

/-- PL_SLOT_END (R20). -/
def execPlSlotEnd (s : State) : Result := .next (takeDue State.plSlotDue endSlot s)

end Sys2Proof.Machine
end

