-- ==== Sys2Proof/Machine/Dispatch.lean ====
section
/-! DEFINITION. The meaning of every command, one arm each. -/

namespace Sys2Proof.Machine

/-- What a command does to everything but the queue of waiting commands. -/
def exec (i : Instr) (s : State) : Host.Outcome State Fault Refusal :=
  match i with
  | .powerOnReset => Sys2Proof.Machine.execPowerOnReset s
  | .identify tag => Sys2Proof.Machine.execIdentify tag s
  | .goStandby tag => Sys2Proof.Machine.execGoStandby tag s
  | .goArmed tag => Sys2Proof.Machine.execGoArmed tag s
  | .goOff tag => Sys2Proof.Machine.execGoOff tag s
  | .abort tag => Sys2Proof.Machine.execAbort tag s
  | .zeroTime tag => Sys2Proof.Machine.execZeroTime tag s
  | .loadBegin tag table first count => Sys2Proof.Machine.execLoadBegin tag table first count s
  | .loadData tag table count entries => Sys2Proof.Machine.execLoadData tag table count entries s
  | .loadAbort tag => Sys2Proof.Machine.execLoadAbort tag s
  | .readTable tag table first count => Sys2Proof.Machine.execReadTable tag table first count s
  | .lockTest tag => Sys2Proof.Machine.execLockTest tag s
  | .unlockTest tag => Sys2Proof.Machine.execUnlockTest tag s
  | .statusRead tag page => Sys2Proof.Machine.execStatusRead tag page s
  | .clearConditions tag masks => Sys2Proof.Machine.execClearConditions tag masks s
  | .setEnables tag group groupEnable enables => Sys2Proof.Machine.execSetEnables tag group groupEnable enables s
  | .setPhase tag phase => Sys2Proof.Machine.execSetPhase tag phase s
  | .resetLoadHistory tag => Sys2Proof.Machine.execResetLoadHistory tag s
  | .softReset tag => Sys2Proof.Machine.execSoftReset tag s
  | .downlinkFrameEnd wire => Sys2Proof.Machine.execDownlinkFrameEnd wire s
  | .lockAchieved => Sys2Proof.Machine.execLockAchieved s
  | .lockTimerExpiry => Sys2Proof.Machine.execLockTimerExpiry s
  | .lockLost => Sys2Proof.Machine.execLockLost s
  | .sampleRow words => Sys2Proof.Machine.execSampleRow words s
  | .rearmExpiry ch => Sys2Proof.Machine.execRearmExpiry ch s
  | .laneSyncTimeout ch => Sys2Proof.Machine.execLaneSyncTimeout ch s
  | .laneSettleEnd ch => Sys2Proof.Machine.execLaneSettleEnd ch s
  | .syncingSubstepEnd => Sys2Proof.Machine.execSyncingSubstepEnd s
  | .settlingSubstepEnd => Sys2Proof.Machine.execSettlingSubstepEnd s
  | .learningEnd => Sys2Proof.Machine.execLearningEnd s
  | .windowExpiry => Sys2Proof.Machine.execWindowExpiry s
  | .intervalExpiry => Sys2Proof.Machine.execIntervalExpiry s
  | .pressureWord word => Sys2Proof.Machine.execPressureWord word s
  | .plSlotEnd => Sys2Proof.Machine.execPlSlotEnd s
  | .flushExpiry => Sys2Proof.Machine.execFlushExpiry s
  | .readinessReport ready => Sys2Proof.Machine.execReadinessReport ready s
  | .frameSent => Sys2Proof.Machine.execFrameSent s
  | .loadIdleTimeout => Sys2Proof.Machine.execLoadIdleTimeout s

end Sys2Proof.Machine
end

