-- ==== Sys2Proof/Safety.lean ====
section
/-! DEFINITION. The terms in which claims about the block are made: a part at rest, an answered request, the request that a
request row stands for, and the invariants of the manual's account rules. -/

namespace Sys2Proof.Machine

/-- Nothing waits in the inbound queue and no frame can start, so that the effect of one event stands alone: neither the scheduler
nor the interpreter has anything to do after it. -/
structure State.AtRest (s : State) : Prop where
  inbound : s.link.inbound = []
  cannotStart : s.canStart = false

/-- A part at rest that has room for one response, so that a request is taken when it arrives. -/
structure State.Quiet (s : State) : Prop extends s.AtRest where
  room : s.rq.responses.length < responseCapacity

/-- A state with one more request taken and its response at the tail of the Response Queue (R169, R170). -/
def State.answered (s : State) (tag kind : Byte) (code : Code) (body : List Byte) : State :=
  { s with
    link := { s.link with taken := s.link.taken + 1 }
    rq := { s.rq with responses := s.rq.responses ++ [{ tag := tag, kind := kind, code := code, body := body }] } }

/-- The good request that a request row stands for (R167, R200, section 13.3): kind, tag and the bytes after it. -/
def requestOf (i : Instr) : Option Request :=
  match i with
  | .identify tag => some { kind := 0x01, tag := tag, args := [] }
  | .goStandby tag => some { kind := 0x02, tag := tag, args := [1] }
  | .goArmed tag => some { kind := 0x02, tag := tag, args := [2] }
  | .goOff tag => some { kind := 0x02, tag := tag, args := [0] }
  | .abort tag => some { kind := 0x03, tag := tag, args := [] }
  | .zeroTime tag => some { kind := 0x04, tag := tag, args := [] }
  | .loadBegin tag table first count => some { kind := 0x05, tag := tag, args := [table, first, count] }
  | .loadData tag table count entries => some { kind := 0x06, tag := tag, args := table :: count :: entries }
  | .loadAbort tag => some { kind := 0x07, tag := tag, args := [] }
  | .readTable tag table first count => some { kind := 0x08, tag := tag, args := [table, first, count] }
  | .lockTest tag => some { kind := 0x09, tag := tag, args := [] }
  | .unlockTest tag => some { kind := 0x0A, tag := tag, args := [] }
  | .statusRead tag page => some { kind := 0x0B, tag := tag, args := [page] }
  | .clearConditions tag masks => some { kind := 0x0C, tag := tag, args := masks }
  | .setEnables tag group groupEnable enables => some { kind := 0x0D, tag := tag, args := group :: groupEnable :: enables }
  | .setPhase tag phase => some { kind := 0x0E, tag := tag, args := [phase] }
  | .resetLoadHistory tag => some { kind := 0x0F, tag := tag, args := [] }
  | .softReset tag => some { kind := 0x10, tag := tag, args := [] }
  | .powerOnReset | .downlinkFrameEnd _ | .lockAchieved | .lockTimerExpiry | .lockLost | .sampleRow _ | .rearmExpiry _
  | .laneSyncTimeout _ | .laneSettleEnd _ | .syncingSubstepEnd | .settlingSubstepEnd | .learningEnd | .windowExpiry
  | .intervalExpiry | .pressureWord _ | .plSlotEnd | .flushExpiry | .readinessReport _ | .frameSent
  | .loadIdleTimeout => none

/-- The bytes that come on the link after the start marker when the recorder sends a request (R200). -/
def wireOf (r : Request) : List Byte :=
  let body := checkedBytes r.kind (r.tag :: r.args)
  escapeBytes (body ++ beBytes 2 (crc16 body))

/-- R170, section 13.3: the bytes after the tag have the length that the request's kind fixes. Of a LOAD_DATA whose table or count byte
lies outside its values, three payload bytes are enough for its length to be taken. -/
def Request.LengthFits (r : Request) : Prop :=
  match r.kind.toNat with
  | 0x01 | 0x03 | 0x04 | 0x07 | 0x09 | 0x0A | 0x0F | 0x10 => r.args.length = 0
  | 0x02 | 0x0B | 0x0E => r.args.length = 1
  | 0x05 | 0x08 => r.args.length = 3
  | 0x06 =>
    ∃ table count entries, r.args = table :: count :: entries ∧
      ∀ id : TableId, table.toNat = id.number → 1 ≤ count.toNat → count.toNat ≤ 4 →
        entries.length = count.toNat * id.entrySize
  | 0x0C => r.args.length = 15
  | 0x0D => r.args.length = 10
  | _ => False

/-- R164: the account of one channel balances, modulo 2^32. -/
def State.BalancedAt (s : State) (ch : Channel) : Prop :=
  s.dets[ch].hitsOpened =
    s.rq.counts[ch].queued + s.rq.counts[ch].filtered + s.rq.counts[ch].shed + s.rq.counts[ch].lost
      + BitVec.ofNat 32 (s.hitsHeld ch)

/-- R164: the account of every channel balances. -/
def State.Balanced (s : State) : Prop := ∀ ch : Channel, s.BalancedAt ch

/-- R146, R154, R168, R198: no queue holds more than its capacity. -/
structure State.WithinCapacity (s : State) : Prop where
  hits : s.rq.hits.length ≤ hitCapacity
  events : s.rq.events.length ≤ eventCapacity
  notices : s.rq.notices.length ≤ noticeCapacity
  responses : s.rq.responses.length ≤ responseCapacity
  inbound : s.link.inbound.length ≤ inboundCapacity

/-- R160: the shed level is at least 1 while the Hit Queue holds at least 128 records, at least 2 while it holds at least 192, and
3 while it is full. -/
structure State.ShedFollows (s : State) : Prop where
  capacity : s.rq.hits.length ≤ hitCapacity
  one : 128 ≤ s.rq.hits.length → 1 ≤ s.rq.shed.val
  two : 192 ≤ s.rq.hits.length → 2 ≤ s.rq.shed.val
  three : s.rq.hits.length = hitCapacity → s.rq.shed.val = 3

/-- R183: every held CRC is that of its table as committed. -/
def State.CrcsCurrent (s : State) : Prop := s.crcs = s.tables.crcs

/-- R118, R120: the peak is at least the pressure in force, and neither exceeds 250,000 kPa. -/
structure State.PeakCovers (s : State) : Prop where
  covers : s.hist.pressure ≤ s.hist.pMax
  most : s.hist.pMax ≤ pressureMax

/-- R134: the blocks that the descriptors own, with repetitions if there were any. -/
def WaveStore.ownedBlocks (w : WaveStore) : List Nat :=
  w.segments.toList.flatMap fun o => match o with | none => [] | some g => g.blocks

/-- R134: no block has two owners, and every owned block is one of the 256. -/
structure State.BlocksOwnedOnce (s : State) : Prop where
  once : s.wave.ownedBlocks.Nodup
  pool : ∀ b ∈ s.wave.ownedBlocks, b < 256

/-- R192: what the test lock freezes: contents and CRCs of SETUP, CHANNEL, PAIR and FILTER. -/
structure Frozen (s t : State) : Prop where
  setup : t.tables.setup = s.tables.setup
  channel : t.tables.channel = s.tables.channel
  pair : t.tables.pair = s.tables.pair
  filter : t.tables.filter = s.tables.filter
  setupCrc : t.crcs.setup = s.crcs.setup
  channelCrc : t.crcs.channel = s.crcs.channel
  pairCrc : t.crcs.pair = s.crcs.pair
  filterCrc : t.crcs.filter = s.crcs.filter

/-- R190, R192: while the test lock is on, no load of a lockable table is in progress. -/
def State.LockHolds (s : State) : Prop := s.lock.isSome = true → s.loadingLockable = false

/-- The table of which an entry is one. -/
def Entry.table (e : Entry) : TableId :=
  match e with
  | .setup _ => .setup
  | .channel _ => .channel
  | .pair _ => .pair
  | .filter _ => .filter
  | .zone _ => .zone

/-- R186, R202: the bytes of one table slot spell an entry of a table: its fields lie in their values and the bytes are its canonical
layout, or it is an unused PAIR slot, whose other fields are not checked. -/
structure Spells (id : TableId) (bs : List Byte) (e : Entry) : Prop where
  values : e.inRange = true
  table : e.table = id
  bytes : bs = encodeEntry e ∨ e = .pair none ∧ bs.length = 7 ∧ bs.head? = some 0

/-- R188: entry `i` fails the check of a detail code on the tables as they would stand. -/
def Detail.FailsAt (d : Detail) (t : Tables) (i : Nat) : Prop :=
  let slot (p : PairEntry) (j : Nat) : Prop := t.pair[j]? = some (some p)
  let same (p q : PairEntry) : Prop := (p.chA = q.chA ∧ p.chB = q.chB) ∨ (p.chA = q.chB ∧ p.chB = q.chA)
  let entry (e : ChannelEntry) : Prop := t.channel[i]? = some e
  match d with
  | .selfPair => ∃ p, slot p i ∧ p.chA = p.chB
  | .dupPair => ∃ p q j, slot p i ∧ slot q j ∧ j < i ∧ same p q
  | .pairGuard => ∃ p, slot p i ∧ (t.channel[p.chA].role = .guard ∨ t.channel[p.chB].role = .guard)
  | .guardMask =>
    ∃ e, entry e ∧ e.role = .guard ∧
      ∃ j : Channel, e.guardMask.getLsbD j.val = true ∧ (j.val = i ∨ t.channel[j].role = .guard)
  | .pstGtHct => ∃ e, entry e ∧ e.hct < e.pst
  | .hctGtMax => ∃ e, entry e ∧ e.maxDuration < e.hct
  | .preGeMax => ∃ e, entry e ∧ e.wfMax ≤ e.wfPre
  | .filterOrder => ∃ r : FilterRule, t.filter[i]? = some r ∧ r.high < r.low

/-- R188, section 13.4: the detail codes in the order of the table. -/
def detailOrder : List Detail := [.selfPair, .dupPair, .pairGuard, .guardMask, .pstGtHct, .hctGtMax, .preGeMax, .filterOrder]

/-- R188: the checks made for a load of a table, in the order of the manual's table. -/
def checksOf (id : TableId) : List Detail :=
  match id with
  | .setup | .zone => []
  | .channel => [.pairGuard, .guardMask, .pstGtHct, .hctGtMax, .preGeMax]
  | .pair => [.selfPair, .dupPair, .pairGuard]
  | .filter => [.filterOrder]

/-- R188: a load of a table is INVALID on these tables with this detail and index: no entry fails an earlier check, and the entry is the
lowest that fails this one. -/
def Invalid (id : TableId) (t : Tables) (d : Detail) (i : Nat) : Prop :=
  ∃ earlier later, checksOf id = earlier ++ d :: later ∧ (∀ c ∈ earlier, ∀ j, ¬ c.FailsAt t j) ∧ d.FailsAt t i ∧
    ∀ j, j < i → ¬ d.FailsAt t j

/-- R186, section 11.1: the acquisition states in which a table may be loaded. -/
def Loadable (id : TableId) (a : Acq) : Prop :=
  id = .zone ∨ a = .off ∨ a = .standby ∨ (id = .channel ∧ a = .armed)

/-- The eight bytes of SET_ENABLES that carry the enables of a group (section 13.3). -/
def groupField (g : Group) (m : FactorBits) : List Byte :=
  List.replicate (8 - g.layoutField.2) 0 ++ (m.layout.drop g.layoutField.1).take g.layoutField.2

/-- No expiry of a tick count is due. -/
structure State.NothingDue (s : State) : Prop where
  sync : ∀ ch, syncTimeoutDue ch s = false
  settle : ∀ ch, laneSettleDue ch s = false
  rearm : ∀ ch, rearmDue ch s = false
  interval : s.intervalDue = false
  slot : s.plSlotDue = false
  syncing : s.syncingDue = false
  settling : s.settlingDue = false
  learning : s.learningDue = false
  window : s.windowDue = false

/-- R71, R70, R47: what the running measurements of an open hit obey at a tick: 1 ≤ counts_to_peak ≤ counts ≤ 65535, and the peak
was taken no later than the last activity, which is no later than the tick. -/
structure OpenHit.Measured (h : OpenHit) (tick : TestTime) : Prop where
  first : 1 ≤ h.countsToPeak
  order : h.countsToPeak ≤ h.counts
  limit : h.counts ≤ 65535
  rise : ticksBetween h.peakTime h.arrival ≤ ticksBetween h.lastActivity h.arrival
  duration : ticksBetween h.lastActivity h.arrival ≤ ticksBetween tick h.arrival

/-! ## Uplink payloads (R201) -/

/-- R147, R201: every number of a hit record fits its field. -/
structure HitRecord.Fits (r : HitRecord) : Prop where
  duration : r.duration < 2 ^ 32
  rise : r.rise < 2 ^ 32
  counts : r.counts < 2 ^ 16
  countsToPeak : r.countsToPeak < 2 ^ 16
  amplitude : r.amplitude < 2 ^ 8
  energy : r.energy < 2 ^ 32
  pressure : r.pressure < 2 ^ 32
  gap : ∀ g, r.gap = some g → g < 2 ^ 32

/-- R201: the layout of a hit record: the fixed part at its offsets, every flag at its bit, and the parts that are present. -/
structure HitRecord.Layout (r : HitRecord) (bs : List Byte) : Prop where
  length : bs.length = 36 + (if r.eventId.isSome then 4 else 0) + (if r.gap.isSome then 4 else 0) + (if r.segId.isSome then 4 else 0)
  hitId : fieldAt bs 0 4 = r.hitId.toNat
  channel : fieldAt bs 4 1 = r.channel.val
  role : fieldAt bs 5 1 = match r.role with | .data => 0 | .guard => 1
  arrival : fieldAt bs 6 6 = r.arrival.toNat
  duration : fieldAt bs 12 4 = r.duration
  rise : fieldAt bs 16 4 = r.rise
  counts : fieldAt bs 20 2 = r.counts
  countsToPeak : fieldAt bs 22 2 = r.countsToPeak
  amplitude : fieldAt bs 24 1 = r.amplitude
  energy : fieldAt bs 25 4 = r.energy
  pressure : fieldAt bs 29 4 = r.pressure
  flags : fieldAt bs 33 2 < 2 ^ 11 ∧ (List.range 11).map (Nat.testBit (fieldAt bs 33 2)) =
    [r.flags.clipped, r.flags.truncated, r.flags.laneFault, r.flags.aborted, r.flags.clockFault, r.flags.guarded, r.flags.noContext,
      r.flags.orphaned, r.flags.eventLost, r.flags.wfSkipped, r.flags.pStale]
  presence : fieldAt bs 35 1 < 2 ^ 3 ∧
    (List.range 3).map (Nat.testBit (fieldAt bs 35 1)) = [r.eventId.isSome, r.gap.isSome, r.segId.isSome]
  eventId : ∀ e, r.eventId = some e → fieldAt bs 36 4 = e.toNat
  gap : ∀ g, r.gap = some g → fieldAt bs (if r.eventId.isSome then 40 else 36) 4 = g
  segId : ∀ g, r.segId = some g → fieldAt bs (bs.length - 4) 4 = g.toNat

/-- R109, R201: every number of an event record fits its field. -/
structure EventRecord.Fits (e : EventRecord) : Prop where
  pressure : e.pressure < 2 ^ 32
  xMm : e.xMm < 2 ^ 16
  count : e.members.length < 2 ^ 8
  dt : ∀ m ∈ e.members, m.dt < 2 ^ 16
  amplitude : ∀ m ∈ e.members, m.amplitude < 2 ^ 8

/-- R201: the layout of an event record, its members in rank order. -/
structure EventRecord.Layout (e : EventRecord) (bs : List Byte) : Prop where
  length : bs.length = 22 + 8 * e.members.length
  eventId : fieldAt bs 0 4 = e.eventId.toNat
  openTime : fieldAt bs 4 6 = e.openTime.toNat
  first : fieldAt bs 10 1 = e.first.val
  zone : fieldAt bs 11 1 = e.zone.val
  pressure : fieldAt bs 12 4 = e.pressure
  flags : fieldAt bs 16 1 < 2 ^ 4 ∧
    (List.range 4).map (Nat.testBit (fieldAt bs 16 1)) = [e.belowPeakLoad, e.locClamped, e.partialMark, e.pStale]
  c1 : fieldAt bs 17 1 = e.c1.val
  c2 : fieldAt bs 18 1 = e.c2.val
  xMm : fieldAt bs 19 2 = e.xMm
  count : fieldAt bs 21 1 = e.members.length
  members : ∀ (i : Nat) (m : EventMember), e.members[i]? = some m →
    fieldAt bs (22 + 8 * i) 1 = m.channel.val ∧ fieldAt bs (23 + 8 * i) 4 = m.hitId.toNat ∧
    fieldAt bs (27 + 8 * i) 2 = m.dt ∧ fieldAt bs (29 + 8 * i) 1 = m.amplitude

/-- R129, R201: every number of an interval record fits its field. -/
structure IntervalRecord.Fits (i : IntervalRecord) : Prop where
  pressure : i.pressure < 2 ^ 32
  pMax : i.pMax < 2 ^ 32
  shedLevel : i.shedLevel < 2 ^ 8
  acqState : i.acqState < 2 ^ 8
  asl : ∀ (ch : Channel) (a : Nat), i.perChannel[ch].aslDb = some a → a < 2 ^ 8
  holdCounts : ∀ z : Zone, i.holdCounts[z] < 2 ^ 16

/-- R201: the layout of an interval record; an absent ASL_db is 255 (section 13.1). -/
structure IntervalRecord.Layout (i : IntervalRecord) (bs : List Byte) : Prop where
  length : bs.length = if i.digest.isSome then 202 else 198
  time : fieldAt bs 0 6 = i.time.toNat
  pressure : fieldAt bs 6 4 = i.pressure
  pMax : fieldAt bs 10 4 = i.pMax
  phase : fieldAt bs 14 1 = match i.phase with | .ramp => 0 | .hold => 1 | .unload => 2
  shedLevel : fieldAt bs 15 1 = i.shedLevel
  acqState : fieldAt bs 16 1 = i.acqState
  flags : fieldAt bs 17 1 < 2 ^ 3 ∧
    (List.range 3).map (Nat.testBit (fieldAt bs 17 1)) = [i.pStale, i.prevReplaced, i.digest.isSome]
  perChannel : ∀ ch : Channel,
    fieldAt bs (18 + 9 * ch.val) 1 = i.perChannel[ch].aslDb.getD 255 ∧
    fieldAt bs (19 + 9 * ch.val) 4 = i.perChannel[ch].opened.toNat ∧
    fieldAt bs (23 + 9 * ch.val) 4 = i.perChannel[ch].lost.toNat
  eventsCompleted : fieldAt bs 162 4 = i.eventsCompleted.toNat
  holdCounts : ∀ z : Zone, fieldAt bs (166 + 2 * z.val) 2 = i.holdCounts[z]
  digest : ∀ d, i.digest = some d → fieldAt bs 198 4 = d.toNat

/-- R201, section 12.1: the layout of a notice: the numbers of its group and of its factor within the group, its index, the state it
carries (255 when absent) and its time. -/
structure Notice.Layout (n : Notice) (bs : List Byte) : Prop where
  length : bs.length = 10
  factor : (fieldAt bs 0 1, fieldAt bs 1 1) =
    match n.factor with
    | .lockFail => (0, 0)
    | .lockLost => (0, 1)
    | .stateReached => (1, 0)
    | .startFailed => (1, 1)
    | .aborted => (1, 2)
    | .laneFault _ => (2, 0)
    | .noisy _ => (2, 1)
    | .continuous _ => (2, 2)
    | .shedChanged => (3, 0)
    | .hitLoss => (3, 1)
    | .eventLoss => (3, 2)
    | .loadDone => (4, 0)
    | .loadAbandoned => (4, 1)
    | .lockChanged => (4, 2)
    | .holdActivity _ => (5, 0)
    | .frameError => (6, 0)
    | .requestDropped => (6, 1)
  index : fieldAt bs 2 1 = n.index
  state : fieldAt bs 3 1 = n.state.getD 255
  time : fieldAt bs 4 6 = n.time.toNat

/-- R201: the layout of a waveform piece. -/
structure Piece.Layout (p : Piece) (bs : List Byte) : Prop where
  length : bs.length = 19 + 2 * p.samples.length
  segId : fieldAt bs 0 4 = p.segId.toNat
  channel : fieldAt bs 4 1 = p.channel.val
  hitId : fieldAt bs 5 4 = p.hitId.toNat
  index : fieldAt bs 9 1 = p.index
  flags : fieldAt bs 10 1 < 2 ^ 2 ∧ (List.range 2).map (Nat.testBit (fieldAt bs 10 1)) = [p.last, p.cut]
  firstTime : fieldAt bs 11 6 = p.firstTime.toNat
  count : fieldAt bs 17 2 = p.samples.length
  samples : ∀ (i : Nat) (smp : Sample), p.samples[i]? = some smp → fieldAt bs (19 + 2 * i) 2 = smp.toNat

/-- R170, R201: the response codes in the order of the table of section 10.3. -/
def codeOrder : List Code :=
  [.ok, .already, .badRequest, .range, .busy, .state, .locked, .loadNone, .loadBusy, .invalid, .noChannel]

/-! ## States that statements name -/

/-- Section 13.1: the number of a STARTING substep. -/
def Substep.number (s : Substep) : Nat :=
  match s with
  | .locking => 0
  | .syncing _ => 1
  | .settling _ _ => 2

/-- R1: the synthesizer after a start request. -/
def State.synthAtStart (s : State) : Synth :=
  match s.synth with
  | .stopped => .locking (s.now + 20000)
  | .locking e => .locking e
  | .locked => .locked
  | .lost => .lost

/-- R126: the interval timer after an entry to STANDBY, or to LEARNING from STARTING. -/
def State.timerAtStart (s : State) : IntervalTimer :=
  match s.tables.setup.intervalK with
  | none => s.timer
  | some k =>
    { s.timer with period := some (2 ^ k * 2000), ticks := 0, eventsCompleted := 0
                   figures := tabulate fun _ => { aslSum := 0, aslCount := 0, opened := 0, lost := 0 } }

/-- R41, R58: a detector with a new active entry and thresholds computed from it. -/
def Detector.given (e : ChannelEntry) (d : Detector) : Detector :=
  { d with
    active := e
    waiting := none
    thrDb := thrDbOf e d.noise
    thrCode := thrCodeOf (thrDbOf e d.noise) e.lsbNv }

/-- R53, R57, R58: a detector after it was told to stand down: one with an open hit keeps it; any other is BLOCKED, with a waiting
entry applied. -/
def Detector.stoodDown (d : Detector) : Detector :=
  match d.machine, d.waiting with
  | .inHit _, _ => d
  | .idle, none | .rearmHold, none | .blocked, none => { d with machine := .blocked }
  | .idle, some e | .rearmHold, some e | .blocked, some e => { Detector.given e d with machine := .blocked }

/-- R10, R57: the lane of a detector after the detector was told to stand down in a state other than OFF. -/
def Lane.stoodDown (d : Detector) (ticking : Bool) (l : Lane) : Lane :=
  match d.machine, d.waiting with
  | .inHit _, _ => l
  | .idle, none | .rearmHold, none | .blocked, none => l
  | .idle, some e | .rearmHold, some e | .blocked, some e =>
    if e.enabled then if ticking ∧ l.state = .off then l.toSyncing else l else l.toOff

/-- R36, R56: the part at entry to DRAINING, before the drain is tested. -/
def State.stoodDown (t : DrainTarget) (s : State) : State :=
  { s with
    acq := .draining t
    dets := tabulate fun ch => s.dets[ch].stoodDown
    lanes := tabulate fun ch => s.lanes[ch].stoodDown s.dets[ch] s.ticking }

/-- R37: nothing is left to drain. -/
structure State.NothingOpen (s : State) : Prop where
  hits : ∀ ch : Channel, s.dets[ch].open? = none
  contexts : ∀ k : Fin 4, s.asm.contexts[k] = none

/-- R28, with no hit open and every context FREE: the part at the end of an entry to OFF. -/
def State.wentOff (s : State) : State :=
  { s with
    acq := .off
    synth := .stopped
    dets := tabulate fun ch => s.dets[ch].stoodDown
    lanes := tabulate fun ch => s.lanes[ch].toOff
    pl := if s.synth = .locked then { s.pl with state := .syncing, slotTicks := 0, slotFilled := false, missingRun := 0 }
          else s.pl
    timer := { s.timer with period := none, ticks := 0 } }

/-- R50, R55: the closed hits of the detectors that an entry to OFF finds in IN_HIT, in ascending channel number. The closure tick is
the stamp of the last row (log 11). -/
def State.forcedClosures (cause : Closure) (s : State) : List ClosedHit :=
  channels.filterMap fun ch => s.dets[ch].open?.map (closedHitOf ch s.dets[ch].active s.rowTT cause)

/-- R33, R53, R55, R57, R58: a detector after an entry to OFF with reason "abort" or "clock": BLOCKED, with the rearm hold and a run of 0
where its hit closed, a waiting entry applied, and a learning period discarded. -/
def Detector.forcedOff (a : Acq) (d : Detector) : Detector :=
  let closed := match d.machine with
    | .inHit _ => { d with rearm := d.active.rht, contRun := 0 }
    | .idle | .rearmHold | .blocked => d
  let applied := match d.waiting with
    | some e => Detector.given e closed
    | none => closed
  match a with
  | .learning _ _ => { applied with machine := .blocked, learnSum := 0, learnCount := 0 }
  | .off | .starting _ _ | .standby | .armed | .draining _ => { applied with machine := .blocked }

/-- R1 to R5, R28, R34, R36, R37, R53, R56: how the acquisition state, the synthesizer, the detectors and the contexts agree. The
clock is STOPPED exactly in OFF and LOCKING exactly in STARTING's first substep; outside ARMED and DRAINING every detector is
BLOCKED and every context is FREE; in DRAINING a detector is BLOCKED or holds its hit. -/
structure State.ModesAgree (s : State) : Prop where
  stopped : s.acq = .off ↔ s.synth = .stopped
  locking : (∃ t, s.acq = .starting t .locking) ↔ ∃ e, s.synth = .locking e
  held : s.synth ≠ .lost
  blocked : s.acq ≠ .armed → (∀ t, s.acq ≠ .draining t) → ∀ ch : Channel, s.dets[ch].machine = .blocked
  draining : (∃ t, s.acq = .draining t) → ∀ ch : Channel, s.dets[ch].machine = .blocked ∨ ∃ h, s.dets[ch].machine = .inHit h
  free : s.acq ≠ .armed → (∀ t, s.acq ≠ .draining t) → ∀ k : Fin 4, s.asm.contexts[k] = none

/-! ## What becomes of contexts -/

/-- R37, R3, R38: the drain test at the start of a tick. With nothing left to drain the part reaches its target; a drain to OFF lets the
tick in progress complete, without samples (log 31), and its stopped interval timer reads 0 ticks (log 19). -/
structure DrainTested (s t : State) : Prop where
  goesOn : (∀ d, s.acq ≠ .draining d) ∨ ¬ s.NothingOpen → t = s
  standby : s.acq = .draining .standby → s.NothingOpen →
    t = setFactor .stateReached 0 (some 2) { s with acq := .standby, timer := s.timerAtStart }
  off : s.acq = .draining .off → s.NothingOpen →
    let u := setFactor .stateReached 0 (some 0) s.wentOff
    t = { u with
      rowTT := s.tt
      tt := s.tt + 1
      lanes := tabulate fun ch => { u.lanes[ch] with tickNumber := u.lanes[ch].tickNumber + 1 }
      dets := tabulate fun ch => { u.dets[ch] with rearm := u.dets[ch].rearm - 1 }
      guard := tabulate fun ch => s.guard[ch] - 1 }

/-- The open member of a context that a closed hit was (R82). -/
structure Member.Closes (m : Member) (h : ClosedHit) : Prop where
  isOpen : m.parked = none
  channel : m.channel = h.channel
  hitId : m.hitId = h.hitId

/-- R82, R101: a closed hit was the open member `m` of context `k`, with these members before and after it, and of no other. -/
structure MemberClosure (s : State) (h : ClosedHit) (k : Fin 4) (c : Context) (before : List Member) (m : Member)
    (after : List Member) : Prop where
  used : s.asm.contexts[k] = some c
  split : c.members = before ++ m :: after
  closes : m.Closes h
  first : ∀ b ∈ before, ¬ b.Closes h
  only : ∀ (j : Fin 4) (b : Context) (n : Member), s.asm.contexts[j] = some b → n ∈ b.members → n.Closes h → j = k

/-- R109: the event record of a completed context, the distance of ranks 1 and 2 being that of the slot `p` (R108). -/
def eventOf (s : State) (c : Context) (m1 m2 : Member) (p : PairEntry) : EventRecord :=
  let far : Int := 2000 * p.distanceMm - s.tables.setup.velocity * m2.dt
  { eventId := s.asm.nextEvent, openTime := c.openTime, first := c.first, zone := c.zone, pressure := c.pressure,
    belowPeakLoad := decide ((c.pressure : Int) < c.pMax - s.tables.setup.loadMarginKpa), locClamped := decide (far < 0),
    partialMark := c.partialMark, pStale := c.pStale, c1 := m1.channel, c2 := m2.channel,
    xMm := if far < 0 then 0 else ((far + 2000) / 4000).toNat,
    members := c.members.filterMap fun m =>
      m.parked.map fun h => { channel := m.channel, hitId := m.hitId, dt := m.dt, amplitude := h.amplitude } }

/-- R106 to R112: what the completion of context `k` does, whose ranks 1 and 2 are `m1` and `m2`. -/
structure Completed (s t : State) (k : Fin 4) (c : Context) (m1 m2 : Member) (p : PairEntry) : Prop where
  contexts : t.asm.contexts = upd s.asm.contexts k fun _ => none
  nextEvent : t.asm.nextEvent = s.asm.nextEvent + 1
  counters : t.asm.eventsDissolved = s.asm.eventsDissolved ∧ t.asm.contextsReleased = s.asm.contextsReleased ∧
    t.asm.hitsNoContext = s.asm.hitsNoContext
  controller : t.acq = s.acq ∧ t.synth = s.synth ∧ t.tt = s.tt ∧ t.dets = s.dets ∧ t.lanes = s.lanes
  others : t.tables = s.tables ∧ t.link = s.link ∧ t.loader = s.loader ∧ t.lock = s.lock ∧ t.guard = s.guard ∧ t.nextHit = s.nextHit
  history : t.hist.pressure = s.hist.pressure ∧ t.hist.pMax = s.hist.pMax ∧ t.hist.phase = s.hist.phase
  queued : s.rq.events.length < 32 →
    t.rq.events = s.rq.events ++ [eventOf s c m1 m2 p] ∧ t.asm.eventsQueued = s.asm.eventsQueued + 1 ∧
    t.asm.eventsLost = s.asm.eventsLost ∧ t.timer.eventsCompleted = s.timer.eventsCompleted + 1
  handed : s.rq.events.length < 32 → s.rq.shed.val < 2 →
    let hits := c.members.filterMap Member.parked
    s.rq.hits.length + hits.length ≤ 256 →
    t.rq.hits.take s.rq.hits.length = s.rq.hits ∧
    (t.rq.hits.drop s.rq.hits.length).map (fun q => (q.record.hitId, q.record.eventId, q.record.flags.eventLost))
      = hits.map fun h => (h.hitId, some s.asm.nextEvent, false)
  shed : s.rq.events.length < 32 → 2 ≤ s.rq.shed.val →
    let hits := c.members.filterMap Member.parked
    t.rq.hits = s.rq.hits ∧
    ∀ ch : Channel, t.rq.counts[ch].shed = s.rq.counts[ch].shed + BitVec.ofNat 32 (hits.countP fun h => h.channel == ch)
  advanced : s.rq.events.length < 32 → s.hist.phase = .hold → s.hist.holdCounts[c.zone] < 65535 →
    t.hist.holdCounts = (upd s.hist.holdCounts c.zone fun n => n + 1) ∧
    (s.hist.holdCounts[c.zone] + 1 = s.tables.zone[c.zone] → t.cond.factors.get (.holdActivity c.zone) = true) ∧
    (s.hist.holdCounts[c.zone] + 1 ≠ s.tables.zone[c.zone] →
      t.cond.factors.get (.holdActivity c.zone) = s.cond.factors.get (.holdActivity c.zone))
  held : s.rq.events.length < 32 → s.hist.phase ≠ .hold ∨ 65535 ≤ s.hist.holdCounts[c.zone] →
    t.hist.holdCounts = s.hist.holdCounts ∧
    t.cond.factors.get (.holdActivity c.zone) = s.cond.factors.get (.holdActivity c.zone)
  lost : 32 ≤ s.rq.events.length →
    t.rq.events = s.rq.events ∧ t.asm.eventsQueued = s.asm.eventsQueued ∧ t.asm.eventsLost = s.asm.eventsLost + 1 ∧
    t.timer.eventsCompleted = s.timer.eventsCompleted ∧ t.hist.holdCounts = s.hist.holdCounts ∧
    t.cond.factors.get .eventLoss = true
  lostHits : 32 ≤ s.rq.events.length → s.rq.shed.val < 2 →
    let hits := c.members.filterMap Member.parked
    s.rq.hits.length + hits.length < 192 →
    t.rq.hits.take s.rq.hits.length = s.rq.hits ∧
    (t.rq.hits.drop s.rq.hits.length).map (fun q => (q.record.hitId, q.record.eventId, q.record.flags.eventLost))
      = hits.map fun h => (h.hitId, some s.asm.nextEvent, true)

/-- R104, R115: the mark that a parked hit carries out of a dissolved context: ORPHANED, but not on a hit that the entry to OFF closed. -/
def ClosedHit.leaving (h : ClosedHit) : ClosedHit :=
  match h.cause with
  | .normal | .truncated | .laneFault => { h with orphaned := true }
  | .aborted | .clockFault => h

/-- R104, R115: what the dissolution of context `k` does, with these members left: parked hits go out standalone in rank order, open
ones are marked ORPHANED, and a context without a member left is not counted. The parked hits go out first (log 34). -/
structure Dissolved (s t : State) (k : Fin 4) (members : List Member) : Prop where
  assembler : t.asm = { s.asm with
    contexts := upd s.asm.contexts k fun _ => none
    eventsDissolved := if members = [] then s.asm.eventsDissolved else s.asm.eventsDissolved + 1 }
  marked : ∀ (ch : Channel) (h : OpenHit), s.dets[ch].machine = .inHit h →
    (∃ m ∈ members, m.parked = none ∧ m.channel = ch ∧ m.hitId = h.hitId) →
    t.dets[ch] = { s.dets[ch] with machine := .inHit { h with orphaned := true } }
  unmarked : ∀ ch : Channel,
    (∀ h, s.dets[ch].machine = .inHit h → ∀ m ∈ members, ¬ (m.parked = none ∧ m.channel = ch ∧ m.hitId = h.hitId)) →
    t.dets[ch] = s.dets[ch]
  offered : (∀ m ∈ members, m.parked = none → s.wave.find m.channel m.hitId = none) →
    t = { (members.filterMap Member.parked).foldl (fun s h => offerStandalone { eventId := none, lost := false } h.leaving s)
            { s with asm := t.asm } with dets := t.dets }

end Sys2Proof.Machine
end

