-- ==== Sys2Proof/Certificates/Slice0/Obligations.lean ====
section
/-! DEFINITION. The statements for the provers. -/

open Sys2Proof Sys2Proof.Machine

/-! ## The step -/

/-- A step takes the command at the front of the queue, with the queue's rest. -/
def Obligations.StepTakesFrontCommand : Prop :=
  ∀ (s : State) (c : Instr) (rest : List Instr),
    step { s with pending := c :: rest } = exec c { s with pending := rest }

/-- The model's choice (log 5): on an empty queue one microsecond of the link clock passes, and nothing else changes while no timer
of the link clock has run out. -/
def Obligations.IdleStepMovesLinkClock : Prop :=
  ∀ s : State, s.pending = [] → (∀ (t : LinkTimer) (d : Nat), t.deadline s = some d → s.now < d) →
    step s = .next { s with now := s.now + 1 }

/-! ## Reset -/

/-- R5, R8, R19, R22, R23, R40, R44, R61, R78, R84, R91, R92, R107, R117, R122, R125, R131, R132, R133, R134, R145, R155, R156, R165,
R168, R171, R180, R181, R182, R183, R187, R192, R195, R196: POWER_ON_RESET answers a next state in every state, and what it leaves in
every block, field by field. The commands that wait stay (log 28). By the model's choice the link clock starts at 0 (log 4), the stamp
of the last row at 0 (log 11), the stopped interval timer at 0 ticks (log 19), and what a lane holds for later rules at its reset values
(log 24). -/
def Obligations.PowerOnResetLeaves : Prop :=
  ∀ s : State,
    let channel : ChannelEntry :=
      { enabled := false, role := .data, mode := .fixed, thresholdDb := 45, marginDb := 10, lsbNv := 305, pst := 100, hct := 400,
        rht := 200, maxDuration := 200000, energyShift := 0, zone := 0, wfMode := .off, wfPre := 256, wfMax := 2048,
        guardMask := 0, guardWindow := 1000 }
    let none78 : FactorBits :=
      { clock := 0, acq := 0, fault := 0, noisy := 0, continuous := 0, flow := 0, table := 0, zone := 0, link := 0 }
    exec .powerOnReset s = .next
      { synth := .stopped
        tt := 0
        rowTT := 0
        now := 0
        lanes := Vector.replicate 16
          { state := .off, lastFault := none, held := 0, goodRun := 0, syncTicks := 0, settleTicks := 0, settleLength := 0,
            framingList := [], missingRun := 0, fullRun := 0, cleanRun := 0, framingErrors := 0, faultEntries := 0,
            tickNumber := 0, declared := false }
        pl := { state := .syncing, slotTicks := 0, slotFilled := false, missingRun := 0, framingErrors := 0 }
        acq := .off
        lastFail := none
        dets := Vector.replicate 16
          { machine := .blocked, rearm := 0, contRun := 0, active := channel, waiting := none, thrDb := 45, thrCode := 584,
            noise := none, learnSum := 0, learnCount := 0, learnCover := true, hitsOpened := 0 }
        nextHit := some 0
        guard := Vector.replicate 16 0
        asm := { contexts := Vector.replicate 4 none, nextEvent := 0, eventsQueued := 0, eventsLost := 0, eventsDissolved := 0,
                 contextsReleased := 0, hitsNoContext := 0 }
        hist := { pressure := 0, pMax := 0, phase := .ramp, holdCounts := Vector.replicate 16 0 }
        timer := { period := none, ticks := 0, figures := Vector.replicate 16 { aslSum := 0, aslCount := 0, opened := 0, lost := 0 },
                   eventsCompleted := 0, slot := none, replaced := 0 }
        wave := { rings := Vector.replicate 16 [], segments := Vector.replicate 64 none, sendList := [], nextSeg := 0, captured := 0,
                  skipped := 0, discarded := 0, sent := 0, pieces := 0 }
        rq := { hits := [], events := [], notices := [], responses := [], shed := 0,
                counts := Vector.replicate 16 { queued := 0, filtered := 0, shed := 0, lost := 0, guarded := 0, gap := 0 },
                tx := none, ready := false, framesSent := 0 }
        link := { inbound := [], frameErrors := 0, dropped := 0, taken := 0 }
        tables :=
          { setup := { velocity := 3000, settleMs := 50, learnMs := 1000, intervalK := none, hitTrigger := 4, flushUs := 2000,
                       loadMarginKpa := 200, pGain := 4096, pOffsetKpa := 0, shedFloorDb := 45, continuousRun := 4 }
            channel := Vector.replicate 16 channel
            pair := Vector.replicate 64 none
            filter := Vector.replicate 8
              { active := false, channelMask := 0, feature := .amplitude, low := 0, high := 0, action := .rejectInside }
            zone := Vector.replicate 16 0 }
        crcs :=
          { setup := crc32 [0x0B, 0xB8, 0, 50, 0x03, 0xE8, 255, 4, 0, 0, 0x07, 0xD0, 0, 0, 0, 200, 0x10, 0, 0, 0, 0, 0, 45, 0, 4]
            channel := crc32 (List.replicate 16
              [0, 45, 10, 0x01, 0x31, 0, 100, 0x01, 0x90, 0, 200, 0, 0x03, 0x0D, 0x40, 0, 0, 0, 0x01, 0, 0x08, 0, 0, 0, 0x03, 0xE8]).flatten
            pair := crc32 (List.replicate 448 0)
            filter := crc32 (List.replicate 104 0)
            zone := crc32 (List.replicate 32 0) }
        loader := none
        lock := none
        cond := { factors := none78, enables := none78, groupEnables := 0 }
        lastReset := .powerOn
        pending := s.pending }

/-- The machine after reset is what POWER_ON_RESET leaves on an empty queue, and it meets every invariant stated below. The link clock
and the stamp of the last row start at 0 by the model's choice (log 4, log 11). -/
def Obligations.ResetMeetsTheInvariants : Prop :=
  exec .powerOnReset State.reset = .next State.reset ∧ State.reset.Balanced ∧ State.reset.WithinCapacity ∧
    State.reset.ShedFollows ∧ State.reset.CrcsCurrent ∧ State.reset.BlocksOwnedOnce ∧ State.reset.LockHolds ∧
    State.reset.PeakCovers ∧ State.reset.ModesAgree

/-! ## Level arithmetic -/

/-- R62: L[A] is the smallest integer V with V ≥ 1000 × 10^(A/20), that is V^20 ≥ 10^(60 + A). The ladder is a constant of the
model. -/
def Obligations.LadderIsItsFormula : Prop :=
  ladderTable.length = 101 ∧ ∀ a : Fin 101,
    10 ^ (60 + a.val) ≤ ladderVolt a.val ^ 20 ∧ (ladderVolt a.val - 1) ^ 20 < 10 ^ (60 + a.val)

/-- R63: the product never exceeds 2,147,450,880; below L[0] the result is 0; otherwise it is the largest level whose ladder voltage
the product reaches; results lie from 0 to 100 and do not fall when the magnitude grows. -/
def Obligations.LadderLevelIsLargest : Prop :=
  ∀ m lsb : Nat, m ≤ 32768 → 1 ≤ lsb → lsb ≤ 65535 →
    m * lsb ≤ 2147450880 ∧
    (m * lsb < ladderVolt 0 → ladderLevel m lsb = 0) ∧
    (ladderVolt 0 ≤ m * lsb →
      ladderVolt (ladderLevel m lsb) ≤ m * lsb ∧ ∀ a, a ≤ 100 → ladderVolt a ≤ m * lsb → a ≤ ladderLevel m lsb) ∧
    ladderLevel m lsb ≤ 100 ∧
    (ladderVolt 100 ≤ m * lsb → ladderLevel m lsb = 100) ∧
    (∀ n, n ≤ m → ladderLevel n lsb ≤ ladderLevel m lsb)

/-- R41, R64, R65: the threshold level is that of the active entry, or, floating on a valid noise, noise and margin within 20 to
99; a threshold code is the smallest code that reaches the level, limited to 1 to 32767; on an uncapped channel a sample is active
exactly when its own level reaches the threshold level; on one that not even a magnitude of 32768 reaches, every level stays below
it. -/
def Obligations.ThresholdCodeIsSmallest : Prop :=
  (∀ (e : ChannelEntry) (noise : Option Nat),
    (e.mode = .fixed ∨ noise = none → thrDbOf e noise = e.thresholdDb) ∧
    (∀ n, e.mode = .floating → noise = some n →
      let level := n + e.marginDb
      thrDbOf e noise = if level < 20 then 20 else if 99 < level then 99 else level)) ∧
  (∀ level lsb : Nat, 20 ≤ level → level ≤ 99 → 1 ≤ lsb → lsb ≤ 65535 →
    let code := thrCodeOf level lsb
    1 ≤ code ∧ code ≤ 32767 ∧
    (ladderVolt level ≤ 32767 * lsb →
      ladderVolt level ≤ code * lsb ∧ (∀ c, c < code → c * lsb < ladderVolt level) ∧
      ∀ m, m ≤ 32768 → (code ≤ m ↔ ladderVolt level ≤ m * lsb) ∧ (code ≤ m ↔ level ≤ ladderLevel m lsb)) ∧
    (32767 * lsb < ladderVolt level → code = 32767) ∧
    (32768 * lsb < ladderVolt level → ∀ m, m ≤ 32768 → ladderLevel m lsb < level))

/-! ## Encodings -/

/-- R167, R168, R169, R170, R172, R200, section 13.3: the frame that carries a request is read as that request, so its end does what
the request's own row does (log 1, log 2; a payload above the largest, 107 bytes, is a bad frame and counted as one). The end of a good
frame of any kind and length answers a next state: where the Response Queue has room the request is taken, and its response stands last
in the queue with its tag and kind; a length that its kind does not have is answered BAD_REQUEST and changes nothing; where the Response
Queue is full the request waits, or is dropped. -/
def Obligations.RequestFramesAreRead : Prop :=
  (∀ (i : Instr) (r : Request) (s : State), requestOf i = some r → r.args.length + 1 ≤ maxRequestPayload →
    exec (.downlinkFrameEnd (wireOf r)) s = exec i s) ∧
  (∀ (r : Request) (s : State), 1 ≤ r.kind.toNat → r.kind.toNat ≤ 0x10 → r.args.length + 1 ≤ 107 →
    let result (t : State) : Prop := exec (.downlinkFrameEnd (wireOf r)) s = .next t
    (s.Quiet →
      (∃ (t : State) (code : Code) (body : List Byte), result t ∧ t.link.inbound = [] ∧
        t.rq.responses.getLast? = some { tag := r.tag, kind := r.kind, code := code, body := body }) ∧
      (¬ r.LengthFits →
        result (s.answered r.tag r.kind .badRequest (if r.kind = 0x02 ∨ r.kind = 0x03 then acqBytes s else [])))) ∧
    (s.canStart = false → 4 ≤ s.rq.responses.length →
      (s.link.inbound.length < 8 → result { s with link := { s.link with inbound := s.link.inbound ++ [r] } }) ∧
      (8 ≤ s.link.inbound.length →
        result (setFactor .requestDropped 0 none { s with link := { s.link with dropped := s.link.dropped + 1 } }))))

/-- R109, R129, R143, R147, R155, R197, R200, R201, R202: bytes as the manual lays them out. A table entry whose fields lie in their
values has a canonical layout of its table's size, and the loader reads the same entry back from it. A hit record, event record, interval
record, notice, waveform piece and response whose numbers fit their fields have the layout of their table in R201; a frame's payload is
its one record, or a count byte and its records in order; and what is sent of the frame in flight is the start marker and bytes without
that marker, which are read back as the frame's kind, payload and check. -/
def Obligations.TableEntriesRoundTrip : Prop :=
  (∀ e : Entry, e.inRange = true →
    (encodeEntry e).length = e.table.entrySize ∧ decodeEntry e.table (encodeEntry e) = some e) ∧
  (∀ r : HitRecord, r.Fits → r.Layout r.bytes) ∧
  (∀ e : EventRecord, e.Fits → e.Layout e.bytes) ∧
  (∀ i : IntervalRecord, i.Fits → i.Layout i.bytes) ∧
  (∀ n : Notice, n.index < 2 ^ 8 → (∀ st, n.state = some st → st < 2 ^ 8) → n.Layout n.bytes) ∧
  (∀ p : Piece, p.index < 2 ^ 8 → p.samples.length < 2 ^ 16 → p.Layout p.bytes) ∧
  (∀ r : Response, r.bytes = r.tag :: r.kind :: BitVec.ofNat 8 (codeOrder.idxOf r.code) :: r.body) ∧
  (∀ (s : State) (f : UplinkFrame), s.rq.tx = some f →
    let read : Byte × List Byte :=
      match f with
      | .response r => (0x80, r.bytes)
      | .notices ns => (0x81, BitVec.ofNat 8 ns.length :: (ns.map Notice.bytes).flatten)
      | .event e => (0x82, e.bytes)
      | .hits hs => (0x83, BitVec.ofNat 8 hs.length :: (hs.map HitRecord.bytes).flatten)
      | .interval i => (0x84, i.bytes)
      | .waveform p => (0x85, p.bytes)
    (read.2.length < 2 ^ 16 →
      ∃ wire : List Byte, s.uplink = some (0xA5 :: wire) ∧ (0xA5 : Byte) ∉ wire ∧
        frameOf wire = some (read.1, read.2, crc16 (read.1 :: (beBytes 2 read.2.length ++ read.2))))) ∧
  (∀ s : State, s.rq.tx = none → s.uplink = none)

/-! ## Invariants that every step keeps -/

/-- R164: the account of every channel balances after every step from a state in which it balances. -/
def Obligations.AccountBalances : Prop :=
  ∀ s t : State, s.Balanced → step s = .next t → t.Balanced

/-- R146, R154, R168, R198: no queue exceeds its capacity. -/
def Obligations.QueuesKeepCapacity : Prop :=
  ∀ s t : State, s.WithinCapacity → step s = .next t → t.WithinCapacity

/-- R160, R161: the shed level follows the occupancy of the Hit Queue; a full queue stands at level 3. -/
def Obligations.ShedLevelFollowsOccupancy : Prop :=
  ∀ s t : State, s.ShedFollows → step s = .next t → t.ShedFollows

/-- R183: every held CRC is that of its table as committed. -/
def Obligations.TableCrcsStayCurrent : Prop :=
  ∀ s t : State, s.CrcsCurrent → step s = .next t → t.CrcsCurrent

/-- R134: no block of the Waveform Store ever has two owners. -/
def Obligations.BlocksHaveOneOwner : Prop :=
  ∀ s t : State, s.BlocksOwnedOnce → step s = .next t → t.BlocksOwnedOnce

/-- R190, R192: with the inbound queue empty, every command but power-on reset keeps a locked test's tables and their CRCs, keeps the
digest or turns the lock off, and no load of a lockable table is in progress while the lock is on. -/
def Obligations.LockFreezesTables : Prop :=
  ∀ (c : Instr) (s t : State), s.LockHolds → s.link.inbound = [] → c ≠ .powerOnReset → exec c s = .next t →
    t.LockHolds ∧ (s.lock.isSome = true → Frozen s t ∧ (t.lock = s.lock ∨ t.lock = none))

/-- R118, R120, R121: the peak covers the pressure in force, and neither exceeds 250,000 kPa. -/
def Obligations.PeakCoversPressure : Prop :=
  ∀ s t : State, s.PeakCovers → step s = .next t → t.PeakCovers

/-- R1 to R5, R28, R34, R36, R37, R53, R56: acquisition state, synthesizer, detectors and contexts go on agreeing. That the
synthesizer is LOST in no state between commands, so that it is STOPPED exactly in OFF, is log 21. -/
def Obligations.ModesGoOnAgreeing : Prop :=
  ∀ s t : State, s.ModesAgree → step s = .next t → t.ModesAgree

/-- R3, R6, R7, R8: with the inbound queue empty, Test Time moves by one at a row of a LOCKED synthesizer, and otherwise only at
ZERO_TIME, a reset or a frame that carries such a request. The one tick that a window expiry can end with is that of a drain to OFF that
it completes: the tick in progress then completes within that command (log 31). -/
def Obligations.TestTimeMovesOnlyByTicksAndResets : Prop :=
  ∀ (c : Instr) (s t : State), s.link.inbound = [] → exec c s = .next t →
    (∀ words, c = .sampleRow words → (s.synth ≠ .locked → t.tt = s.tt) ∧ (t.tt = s.tt ∨ t.tt = s.tt + 1)) ∧
    (c = .windowExpiry →
      t.tt = s.tt ∨
        (s.acq = .draining .off ∧ s.synth = .locked ∧ t.acq = .off ∧ t.synth = .stopped ∧ t.rowTT = s.tt ∧ t.tt = s.tt + 1)) ∧
    (c ≠ .powerOnReset → (∀ words, c ≠ .sampleRow words) → (∀ tag, c ≠ .zeroTime tag) → (∀ tag, c ≠ .softReset tag) →
      (∀ wire, c ≠ .downlinkFrameEnd wire) → c ≠ .windowExpiry → t.tt = s.tt)

/-! ## Requests -/

/-- R169, R171: IDENTIFY is answered OK with the part's identity, the capacities of section 0.6 and the last reset kind, and changes
nothing else. A receiver that is ready with nothing else to take gets the response in a frame at once (R157). -/
def Obligations.IdentifyAnswers : Prop :=
  ∀ (s : State) (tag : Byte),
    let identity : List Byte :=
      [0x0A, 0x16, 1, 1, 0, 16, 0, 1, 0, 16, 0, 64, 0, 8, 0, 4, 0, 2, 1, 0, 0, 32, 0, 16, 0, 4, 0, 8, 0, 1, 4, 0, 1, 0, 0, 64,
        0, 1, 0, 1, if s.lastReset = .soft then 1 else 0]
    (s.Quiet → exec (.identify tag) s = .next (s.answered tag 0x01 .ok identity)) ∧
    (s.link.inbound = [] → s.rq.tx = none → s.rq.ready = true → s.rq.responses = [] → s.rq.notices = [] → s.rq.events = [] →
      s.rq.hits = [] → s.timer.slot = none → s.wave.sendList = [] →
      exec (.identify tag) s = .next
        { s with
          link := { s.link with taken := s.link.taken + 1 }
          rq := { s.rq with tx := some (.response { tag := tag, kind := 0x01, code := .ok, body := identity }) } })

/-- R24, R29, R36, R37, R38, R172: GO(STANDBY) in every acquisition state. -/
def Obligations.GoStandbyAnswers : Prop :=
  ∀ (s : State) (tag : Byte), s.Quiet →
    let result (t : State) (code : Code) (body : List Byte) : Prop :=
      exec (.goStandby tag) s = .next (t.answered tag 0x02 code body)
    (s.acq = .off →
      result { s with acq := .starting .standby .locking, synth := s.synthAtStart } .ok [1, 0, 2]) ∧
    (∀ sub, s.acq = .starting .standby sub → result s .already [1, byte sub.number, 2]) ∧
    (∀ sub, s.acq = .starting .armed sub → result s .busy [1, byte sub.number, 4]) ∧
    (s.acq = .standby → result s .already [2, 255, 255]) ∧
    (∀ n p, s.acq = .learning n p → result s .busy [3, 255, 4]) ∧
    (s.acq = .armed → ¬ s.NothingOpen → result (s.stoodDown .standby) .ok [5, 255, 2]) ∧
    (s.acq = .armed → s.NothingOpen →
      result (setFactor .stateReached 0 (some 2)
        { s.stoodDown .standby with acq := .standby, timer := s.timerAtStart }) .ok [2, 255, 255]) ∧
    (s.acq = .draining .standby → result s .already [5, 255, 2]) ∧
    (s.acq = .draining .off → result s .busy [5, 255, 0])

/-- R25, R29, R32, R59, R172: GO(ARMED) in every acquisition state. -/
def Obligations.GoArmedAnswers : Prop :=
  ∀ (s : State) (tag : Byte), s.Quiet →
    let result (t : State) (code : Code) (body : List Byte) : Prop :=
      exec (.goArmed tag) s = .next (t.answered tag 0x02 code body)
    ((∀ ch : Channel, s.tables.channel[ch].enabled = true → s.tables.channel[ch].role = .guard) →
      result s .noChannel (acqBytes s)) ∧
    (∀ ch : Channel, s.tables.channel[ch].enabled = true → s.tables.channel[ch].role = .data →
      (s.acq = .off → result { s with acq := .starting .armed .locking, synth := s.synthAtStart } .ok [1, 0, 4]) ∧
      (∀ sub, s.acq = .starting .armed sub → result s .already [1, byte sub.number, 4]) ∧
      (∀ sub, s.acq = .starting .standby sub → result s .busy [1, byte sub.number, 2]) ∧
      (s.acq = .standby →
        result
          { s with
            acq := .learning 0 (s.tables.setup.learnMs * 2000)
            dets := tabulate fun j => { s.dets[j] with learnSum := 0, learnCount := 0, learnCover := true } }
          .ok [3, 255, 4]) ∧
      (∀ n p, s.acq = .learning n p → result s .already [3, 255, 4]) ∧
      (s.acq = .armed → result s .already [4, 255, 255]) ∧
      (s.acq = .draining .standby → result s .busy [5, 255, 2]) ∧
      (s.acq = .draining .off → result s .busy [5, 255, 0]))

/-- R26, R28, R33, R36, R37, R38, R172: GO(OFF) in every acquisition state. In STARTING, STANDBY and LEARNING no hit is open in any
run (R55); the premise says so. A stopped interval timer reads no period and 0 ticks (log 19). -/
def Obligations.GoOffAnswers : Prop :=
  ∀ (s : State) (tag : Byte), s.Quiet →
    let result (t : State) (code : Code) (body : List Byte) : Prop :=
      exec (.goOff tag) s = .next (t.answered tag 0x02 code body)
    (s.acq = .off → result s .already [0, 255, 255]) ∧
    ((∃ t sub, s.acq = .starting t sub) ∨ s.acq = .standby → (∀ ch : Channel, s.dets[ch].open? = none) →
      result (setFactor .stateReached 0 (some 0) s.wentOff) .ok [0, 255, 255]) ∧
    ((∃ n p, s.acq = .learning n p) → (∀ ch : Channel, s.dets[ch].open? = none) →
      result
        (setFactor .stateReached 0 (some 0)
          (State.wentOff { s with dets := tabulate fun ch => { s.dets[ch] with learnSum := 0, learnCount := 0 } }))
        .ok [0, 255, 255]) ∧
    (s.acq = .armed → ¬ s.NothingOpen → result (s.stoodDown .off) .ok [5, 255, 0]) ∧
    (s.acq = .armed → s.NothingOpen → result (setFactor .stateReached 0 (some 0) s.wentOff) .ok [0, 255, 255]) ∧
    (s.acq = .draining .standby → result { s with acq := .draining .off } .ok [5, 255, 0]) ∧
    (s.acq = .draining .off → result s .already [5, 255, 0])

/-- R27, R28, R50, R53, R55, R57, R115, R172: ABORT forces the part to OFF from every state: every open hit closes with ABORTED and is
handed on, in ascending channel number, with its detector in a rearm hold of rht and its run at 0; then every context dissolves; the
clock stops, ACQ.ABORTED is set, and every other setting, table, peak, phase and identifier stays. A stopped interval timer reads 0
ticks (log 19), and the closure tick is the stamp of the last row (log 11). -/
def Obligations.AbortForcesOff : Prop :=
  ∀ (s : State) (tag : Byte), s.Quiet → ∃ t : State,
    exec (.abort tag) s = .next (t.answered tag 0x03 .ok [0, 255, 255]) ∧
    t = { s with
      acq := .off
      synth := .stopped
      dets := t.dets
      lanes := tabulate fun ch => s.lanes[ch].toOff
      pl := if s.synth = .locked then { s.pl with state := .syncing, slotTicks := 0, slotFilled := false, missingRun := 0 }
            else s.pl
      asm := { s.asm with contexts := Vector.replicate 4 none, eventsDissolved := t.asm.eventsDissolved }
      timer := { s.timer with period := none, ticks := 0, figures := t.timer.figures }
      wave := t.wave
      cond := { s.cond with factors := t.cond.factors }
      rq := { s.rq with hits := t.rq.hits, notices := t.rq.notices, shed := t.rq.shed, counts := t.rq.counts } } ∧
    (∀ ch : Channel, t.dets[ch] = s.dets[ch].forcedOff s.acq) ∧
    (∀ ch : Channel, t.dets[ch].machine = .blocked ∧ t.dets[ch].waiting = none ∧
      t.dets[ch].hitsOpened = s.dets[ch].hitsOpened ∧ t.dets[ch].noise = s.dets[ch].noise) ∧
    (let handed := (s.forcedClosures .aborted).foldl (fun s h => handOn h s) s
     let u := setFactor .aborted 0 none (dissolveAll handed)
     t.rq = u.rq ∧ t.wave = u.wave ∧ t.asm = u.asm ∧ t.cond = u.cond ∧ t.timer.figures = u.timer.figures) ∧
    s.wave.sendList <+: t.wave.sendList ∧ t.wave.rings = s.wave.rings ∧ s.rq.hits <+: t.rq.hits ∧
    t.cond.factors.get .aborted = true

/-- R7: ZERO_TIME is taken in OFF and STANDBY and moves Test Time only; elsewhere it is refused STATE and Test Time is unchanged. -/
def Obligations.ZeroTimeAnswers : Prop :=
  ∀ (s : State) (tag : Byte), s.Quiet →
    (s.acq = .off ∨ s.acq = .standby → exec (.zeroTime tag) s = .next (State.answered { s with tt := 0 } tag 0x04 .ok [])) ∧
    (s.acq ≠ .off → s.acq ≠ .standby → exec (.zeroTime tag) s = .next (s.answered tag 0x04 .state []))

/-- R170, R184, R185: LOAD_BEGIN, in the order of its judgements. That an unknown table byte is refused RANGE by the interpreter, also
while a load is in progress, is log 18. -/
def Obligations.LoadBeginAnswers : Prop :=
  ∀ (s : State) (tag table first count : Byte), s.Quiet →
    let result (t : State) (code : Code) (body : List Byte) : Prop :=
      exec (.loadBegin tag table first count) s = .next (t.answered tag 0x05 code body)
    (5 ≤ table.toNat → result s .range []) ∧
    (∀ id : TableId, table.toNat = id.number →
      (s.loader.isSome = true → result s .loadBusy []) ∧
      (s.loader = none →
        (id.entries ≤ first.toNat ∨ 16 < count.toNat ∨ id.entries < first.toNat + count.toNat → result s .range []) ∧
        (first.toNat < id.entries → count.toNat = 0 → result s .ok (beBytes 4 (s.crcs.get id).toNat)) ∧
        (1 ≤ count.toNat → count.toNat ≤ 16 → first.toNat + count.toNat ≤ id.entries →
          (id ≠ .zone → s.lock.isSome = true → result s .locked []) ∧
          (id = .zone ∨ s.lock = none →
            let loadable :=
              id = .zone ∨ s.acq = .off ∨ s.acq = .standby ∨ (id = .channel ∧ s.acq = .armed)
            (¬ loadable → result s .state []) ∧
            (loadable →
              result
                { s with loader := some { table := id, first := first.toNat, expected := count.toNat, staged := [],
                                          expiry := s.now + 1000000 } }
                .ok [count])))))

/-- R170, R186, R187: LOAD_DATA that is refused, or that leaves the load open. A RANGE refusal of the loader abandons the load; an
entry whose fields lie in their values is staged, and the idle second starts again. -/
def Obligations.LoadDataStages : Prop :=
  ∀ (s : State) (tag table count : Byte) (entries : List Byte), s.Quiet →
    let result (t : State) (code : Code) (body : List Byte) : Prop :=
      exec (.loadData tag table count entries) s = .next (t.answered tag 0x06 code body)
    (5 ≤ table.toNat ∨ count.toNat = 0 ∨ 4 < count.toNat → result s .range []) ∧
    (∀ id : TableId, table.toNat = id.number → 1 ≤ count.toNat → count.toNat ≤ 4 →
      (entries.length ≠ count.toNat * id.entrySize → result s .badRequest []) ∧
      (entries.length = count.toNat * id.entrySize →
        (s.loader = none → result s .loadNone []) ∧
        (∀ l, s.loader = some l →
          (id ≠ l.table ∨ l.expected < l.staged.length + count.toNat →
            result (setFactor .loadAbandoned 0 none { s with loader := none }) .range []) ∧
          (id = l.table → l.staged.length + count.toNat ≤ l.expected →
            ((∀ parts : List (List Byte × Entry), (∀ p ∈ parts, Spells id p.1 p.2) → parts.flatMap Prod.fst ≠ entries) →
              result (setFactor .loadAbandoned 0 none { s with loader := none }) .range []) ∧
            (∀ parts : List (List Byte × Entry), (∀ p ∈ parts, Spells id p.1 p.2) → parts.flatMap Prod.fst = entries →
              l.staged.length + count.toNat < l.expected →
              result
                { s with loader := some { l with staged := l.staged ++ parts.map Prod.snd, expiry := s.now + 1000000 } }
                .ok [byte (l.expected - (l.staged.length + count.toNat))])))))

/-- R57, R58, R183, R186, R188, R189: LOAD_DATA that ends a load: refused STATE where the table may not be loaded, refused INVALID with
the first of R188's checks that fails and the lowest entry that fails it, the load abandoned either way; or, where no entry fails a check
of the table, committed, with the table's CRC recomputed and its consumers handed the new entries. A timer that a commit of interval OFF
stops reads 0 ticks (log 19). -/
def Obligations.LoadDataCommits : Prop :=
  ∀ (s : State) (tag table count : Byte) (entries : List Byte) (l : Load) (parts : List (List Byte × Entry)), s.Quiet →
    table.toNat = l.table.number → 1 ≤ count.toNat → count.toNat ≤ 4 → parts.length = count.toNat →
    (∀ p ∈ parts, Spells l.table p.1 p.2) → parts.flatMap Prod.fst = entries → s.loader = some l →
    l.staged.length + count.toNat = l.expected →
    let result (t : State) (code : Code) (body : List Byte) : Prop :=
      exec (.loadData tag table count entries) s = .next (t.answered tag 0x06 code body)
    let tables := s.tables.putEntries l.table l.first (l.staged ++ parts.map Prod.snd)
    let crcs := s.crcs.put l.table (tables.crcOf l.table)
    let committed : State := { s with loader := none, tables := tables, crcs := crcs }
    let crc := beBytes 4 (tables.crcOf l.table).toNat
    (¬ Loadable l.table s.acq → result (setFactor .loadAbandoned 0 none { s with loader := none }) .state []) ∧
    (Loadable l.table s.acq →
      (∀ (d : Detail) (i : Nat), Invalid l.table tables d i →
        result (setFactor .loadAbandoned 0 none { s with loader := none }) .invalid [byte (detailOrder.idxOf d), byte i]) ∧
      ((∀ d ∈ checksOf l.table, ∀ i, ¬ d.FailsAt tables i) →
        (l.table = .pair ∨ l.table = .filter ∨ l.table = .zone → result (setFactor .loadDone 0 none committed) .ok crc) ∧
        (l.table = .setup →
          (s.acq ≠ .standby ∨ tables.setup.intervalK = s.tables.setup.intervalK →
            result (setFactor .loadDone 0 none committed) .ok crc) ∧
          (s.acq = .standby → tables.setup.intervalK ≠ s.tables.setup.intervalK →
            (∀ k, tables.setup.intervalK = some k →
              result
                (setFactor .loadDone 0 none
                  { committed with
                    timer := { s.timer with
                      period := some (2 ^ k * 2000), ticks := 0, eventsCompleted := 0
                      figures := tabulate fun _ => { aslSum := 0, aslCount := 0, opened := 0, lost := 0 } } })
                .ok crc) ∧
            (tables.setup.intervalK = none →
              result (setFactor .loadDone 0 none { committed with timer := { s.timer with period := none, ticks := 0 } })
                .ok crc))) ∧
        (l.table = .channel →
          let replaced (ch : Channel) : Prop := l.first ≤ ch.val ∧ ch.val < l.first + l.expected
          ∃ t : State,
            exec (.loadData tag table count entries) s = .next (t.answered tag 0x06 .ok crc) ∧
            t = { committed with
              dets := t.dets, lanes := t.lanes, cond := { s.cond with factors := s.cond.factors.on .loadDone }
              rq := { s.rq with notices := t.rq.notices } } ∧
            (∀ ch : Channel, ¬ replaced ch → t.dets[ch] = s.dets[ch] ∧ t.lanes[ch] = s.lanes[ch]) ∧
            (∀ ch : Channel, replaced ch →
              (s.acq ≠ .armed ∨ s.dets[ch].machine = .idle ∨ s.dets[ch].machine = .blocked →
                t.dets[ch].active = tables.channel[ch] ∧ t.dets[ch].waiting = none ∧
                t.dets[ch].thrDb = thrDbOf tables.channel[ch] s.dets[ch].noise ∧
                t.dets[ch].thrCode = thrCodeOf t.dets[ch].thrDb tables.channel[ch].lsbNv ∧
                t.dets[ch].noise = s.dets[ch].noise ∧ t.dets[ch].rearm = s.dets[ch].rearm ∧
                t.dets[ch].contRun = s.dets[ch].contRun ∧ t.dets[ch].hitsOpened = s.dets[ch].hitsOpened ∧
                (tables.channel[ch].enabled = false →
                  t.lanes[ch] = s.lanes[ch].toOff ∧
                    (s.dets[ch].open? = none → t.dets[ch].machine = .blocked)) ∧
                (tables.channel[ch].enabled = true →
                  t.dets[ch].machine = s.dets[ch].machine ∧
                  (s.synth = .locked → s.acq ≠ .off → s.lanes[ch].state = .off → t.lanes[ch] = s.lanes[ch].toSyncing) ∧
                  (s.synth ≠ .locked ∨ s.acq = .off ∨ s.lanes[ch].state ≠ .off → t.lanes[ch] = s.lanes[ch]))) ∧
              (s.acq = .armed → s.dets[ch].machine = .rearmHold ∨ s.dets[ch].open?.isSome = true →
                t.dets[ch] = { s.dets[ch] with waiting := some tables.channel[ch] } ∧ t.lanes[ch] = s.lanes[ch])))))

/-- R187: LOAD_ABORT, and the expiry of the loader's idle second, abandon a load and set TABLE.LOAD_ABANDONED. An IDLE loader
answers ALREADY, and its timer does not run (log 3). The clock has passed to the timer's end, and a lock timer that ends at the
same moment is still running: the timer whose expiry is the command comes first (log 4). -/
def Obligations.LoadsAreAbandoned : Prop :=
  ∀ s : State,
    (∀ tag : Byte, s.Quiet →
      (s.loader.isSome = true →
        exec (.loadAbort tag) s =
          .next ((setFactor .loadAbandoned 0 none { s with loader := none }).answered tag 0x07 .ok [])) ∧
      (s.loader = none → exec (.loadAbort tag) s = .next (s.answered tag 0x07 .already []))) ∧
    (∀ l, s.AtRest → s.loader = some l → (∀ e, s.synth = .locking e → l.expiry ≤ e) →
      exec .loadIdleTimeout s =
        .next (setFactor .loadAbandoned 0 none { s with loader := none, now := max s.now l.expiry })) ∧
    (s.loader = none → exec .loadIdleTimeout s = .next s)

/-- R193, R202: READ_TABLE answers up to four committed entries, cut from the canonical form of the table, with the table's CRC, and
changes nothing. -/
def Obligations.ReadTableAnswers : Prop :=
  ∀ (s : State) (tag table first count : Byte), s.Quiet →
    let result (code : Code) (body : List Byte) : Prop :=
      exec (.readTable tag table first count) s = .next (s.answered tag 0x08 code body)
    (5 ≤ table.toNat → result .range []) ∧
    (∀ id : TableId, table.toNat = id.number →
      (count.toNat < 1 ∨ 4 < count.toNat ∨ id.entries < first.toNat + count.toNat → result .range []) ∧
      (1 ≤ count.toNat → count.toNat ≤ 4 → first.toNat + count.toNat ≤ id.entries →
        result .ok
          ([table, first, count]
            ++ ((s.tables.canonical id).drop (first.toNat * id.entrySize)).take (count.toNat * id.entrySize)
            ++ beBytes 4 (s.crcs.get id).toNat)))

/-- R190, R191, R192: LOCK_TEST computes and holds the digest over the five CRCs, unless the lock is on or a load of a lockable table
is in progress; UNLOCK_TEST is taken in OFF and STANDBY. -/
def Obligations.LockRequestsAnswer : Prop :=
  ∀ (s : State) (tag : Byte), s.Quiet →
    (∀ d, s.lock = some d →
      exec (.lockTest tag) s = .next (s.answered tag 0x09 .already (beBytes 4 d.toNat)) ∧
      (s.acq = .off ∨ s.acq = .standby →
        exec (.unlockTest tag) s = .next ((setFactor .lockChanged 0 none { s with lock := none }).answered tag 0x0A .ok [])) ∧
      (s.acq ≠ .off → s.acq ≠ .standby → exec (.unlockTest tag) s = .next (s.answered tag 0x0A .state []))) ∧
    (s.lock = none →
      exec (.unlockTest tag) s = .next (s.answered tag 0x0A .already []) ∧
      ((∃ l, s.loader = some l ∧ l.table ≠ .zone) → exec (.lockTest tag) s = .next (s.answered tag 0x09 .loadBusy [])) ∧
      ((∀ l, s.loader = some l → l.table = .zone) →
        let digest := crc32
          (beBytes 4 s.crcs.setup.toNat ++ beBytes 4 s.crcs.channel.toNat ++ beBytes 4 s.crcs.pair.toNat
            ++ beBytes 4 s.crcs.filter.toNat ++ beBytes 4 s.crcs.zone.toNat)
        exec (.lockTest tag) s =
          .next ((setFactor .lockChanged 0 none { s with lock := some digest }).answered tag 0x09 .ok
            (beBytes 4 digest.toNat))))

/-- R5, R8, R19, R21, R23, R44, R61, R83, R86, R92, R117, R122, R132, R134, R145, R146, R158, R164, R166, R168, R170, R174, R180,
R183, R184, R192, R199, section 13.4: STATUS_READ answers a snapshot that counts its own request, the page number first and every
item of the page in the order of section 10.5's table, and changes nothing; a page above 3 is refused RANGE. Widths that section
13.4 leaves open, and the bytes of the readiness report and of the transmitter state, are log 15. The next hit_id after exhaustion
and a wait that does not fit are free values (log 16, log 17); the items of page 0 are stated for a wait that fits. -/
def Obligations.StatusReadAnswers : Prop :=
  ∀ (s : State) (tag page : Byte), s.Quiet →
    let result (code : Code) (body : List Byte) : Prop := exec (.statusRead tag page) s = .next (s.answered tag 0x0B code body)
    let one (n : Nat) : List Byte := [BitVec.ofNat 8 n]
    let four (n : Nat) : List Byte := beBytes 4 n
    let flag (b : Bool) : List Byte := if b then [1] else [0]
    let opt (o : Option Nat) : List Byte := one (o.getD 255)
    let cause (c : LaneCause) : Nat := match c with | .noSync => 0 | .framing => 1 | .silent => 2 | .stuck => 3
    let lane (l : Lane) : List Byte :=
      one (match l.state with | .off => 0 | .syncing => 1 | .settling => 2 | .live _ => 3 | .faulted _ => 4)
        ++ opt (match l.state with | .faulted c => some (cause c) | .off | .syncing | .settling | .live _ => none)
        ++ opt (l.lastFault.map cause)
    let detector (d : Detector) : List Byte :=
      one (match d.machine with | .idle => 0 | .inHit _ => 1 | .rearmHold => 2 | .blocked => 3)
        ++ one d.thrDb ++ beBytes 2 d.thrCode ++ opt d.noise ++ flag d.waiting.isSome
    let context (o : Option Context) : List Byte :=
      match o with
      | none => [0, 255] ++ List.replicate 12 0 ++ [0, 0]
      | some c =>
        one (if c.settling then 2 else 1) ++ one c.first.val ++ beBytes 6 c.openTime.toNat ++ beBytes 6 c.windowEnd.toNat
          ++ one c.members.length ++ one (c.members.countP fun m => m.parked.isSome)
    let filled (st : SegState) : Nat := s.wave.segments.toList.countP fun o => o.any fun g => g.state == st
    let blocks : Nat := (s.wave.segments.toList.map fun o => (o.map fun g => g.blocks.length).getD 0).sum
    let wait : List Byte := match s.rq.hits with | [] => [255, 255, 255, 255] | q :: _ => four (s.now - q.entryTime)
    let items : List (List Byte) :=
      [one (match s.synth with | .stopped => 0 | .locking _ => 1 | .locked => 2 | .lost => 3), beBytes 6 s.tt.toNat,
       s.lanes.toList.flatMap lane,
       one (match s.pl.state with | .syncing => 0 | .live => 1 | .stale => 2), four s.pl.framingErrors.toNat,
       one (match s.acq with
         | .off => 0 | .starting _ _ => 1 | .standby => 2 | .learning _ _ => 3 | .armed => 4 | .draining _ => 5),
       opt (match s.acq with
         | .starting _ .locking => some 0 | .starting _ (.syncing _) => some 1 | .starting _ (.settling _ _) => some 2
         | .off | .standby | .learning _ _ | .armed | .draining _ => none),
       opt (match s.acq with
         | .starting .standby _ | .draining .standby => some 2 | .starting .armed _ | .learning _ _ => some 4
         | .draining .off => some 0 | .off | .standby | .armed => none),
       opt (s.lastFail.map fun f => match f with | .lock => 0 | .noLane => 1),
       s.dets.toList.flatMap detector,
       four (match s.nextHit with | some id => id.toNat | none => Config.exhaustedHitId.toNat), flag s.nextHit.isNone,
       s.asm.contexts.toList.flatMap context, four s.asm.nextEvent.toNat, four s.asm.eventsQueued.toNat,
       four s.asm.eventsLost.toNat, four s.asm.eventsDissolved.toNat, four s.asm.contextsReleased.toNat,
       four s.asm.hitsNoContext.toNat,
       four s.hist.pressure, four s.hist.pMax, one (match s.hist.phase with | .ramp => 0 | .hold => 1 | .unload => 2),
       s.hist.holdCounts.toList.flatMap four,
       flag s.timer.period.isSome, four (match s.timer.period with | some p => p / 2000 | none => 4294967295),
       four (match s.timer.period with | some p => min s.timer.ticks (p - 1) | none => s.timer.ticks),
       flag s.timer.slot.isSome, four s.timer.replaced.toNat,
       four s.wave.captured.toNat, four s.wave.skipped.toNat, four s.wave.discarded.toNat, four s.wave.sent.toNat,
       four s.wave.pieces.toNat, four s.wave.nextSeg.toNat, four (256 - blocks),
       four (s.wave.segments.toList.countP Option.isNone), four s.wave.sendList.length, four (filled .filling),
       four (filled .waitEvent),
       one s.rq.shed.val, four s.rq.hits.length, four s.rq.events.length, four s.rq.notices.length, four s.rq.responses.length,
       wait, flag s.rq.tx.isSome, flag s.rq.ready, four s.rq.framesSent.toNat,
       four s.link.inbound.length, four s.link.frameErrors.toNat, four s.link.dropped.toNat, four (s.link.taken + 1).toNat,
       (match s.loader with
        | none => [0, 255, 255, 255, 255]
        | some l =>
          one 1 ++ one (match l.table with | .setup => 0 | .channel => 1 | .pair => 2 | .filter => 3 | .zone => 4)
            ++ one l.first ++ one l.expected ++ one l.staged.length),
       four s.crcs.setup.toNat, four s.crcs.channel.toNat, four s.crcs.pair.toNat, four s.crcs.filter.toNat, four s.crcs.zone.toNat,
       flag s.lock.isSome, (match s.lock with | some d => four d.toNat | none => [])]
    let held (ch : Channel) : Nat :=
      (if s.dets[ch].open?.isSome then 1 else 0)
        + (s.asm.contexts.toList.map fun o => match o with
            | none => 0
            | some c => c.members.countP fun m => m.parked.any fun h => h.channel == ch).sum
    let account (ch : Channel) : List Byte :=
      four s.lanes[ch].framingErrors.toNat ++ four s.lanes[ch].faultEntries.toNat ++ four s.dets[ch].hitsOpened.toNat
        ++ four s.dets[ch].contRun ++ four s.rq.counts[ch].filtered.toNat ++ four s.rq.counts[ch].guarded.toNat
        ++ four s.rq.counts[ch].queued.toNat ++ four s.rq.counts[ch].shed.toNat ++ four s.rq.counts[ch].lost.toNat
        ++ four s.rq.counts[ch].gap ++ four (held ch)
    (4 ≤ page.toNat → result .range []) ∧
    (page = 0 → (∀ q rest, s.rq.hits = q :: rest → s.now - q.entryTime < 4294967295) → result .ok (0 :: items.flatten)) ∧
    (page = 0 → ∃ body : List Byte, result .ok (0 :: body) ∧ body.take 7 = one s.synth.number ++ beBytes 6 s.tt.toNat) ∧
    (page = 1 →
      result .ok
        ([1] ++ s.cond.factors.layout ++ s.cond.enables.layout ++ [byte s.cond.groupEnables.toNat, byte s.cond.summaries])) ∧
    (page = 2 → result .ok (2 :: [0, 1, 2, 3, 4, 5, 6, 7].flatMap fun ch : Channel => account ch)) ∧
    (page = 3 → result .ok (3 :: [8, 9, 10, 11, 12, 13, 14, 15].flatMap fun ch : Channel => account ch))

/-- R170, R175, R195, section 13.3: CLEAR_CONDITIONS clears exactly the entries its masks name. -/
def Obligations.ClearConditionsAnswers : Prop :=
  ∀ (s : State) (tag : Byte) (masks : List Byte), s.Quiet →
    let result (t : State) (code : Code) : Prop := exec (.clearConditions tag masks) s = .next (t.answered tag 0x0C code [])
    (masks.length ≠ 15 → result s .badRequest) ∧
    (masks.length = 15 → (∀ m : FactorBits, m.layout ≠ masks) → result s .range) ∧
    (∀ m : FactorBits, m.layout = masks →
      ∃ left : FactorBits, result { s with cond := { s.cond with factors := left } } .ok ∧
        ∀ f, left.get f = (s.cond.factors.get f && !m.get f))

/-- R170, R176, section 13.3: SET_ENABLES writes the group enable and every factor enable of one group, and no other. -/
def Obligations.SetEnablesAnswers : Prop :=
  ∀ (s : State) (tag group groupEnable : Byte) (enables : List Byte), s.Quiet →
    let result (t : State) (code : Code) : Prop :=
      exec (.setEnables tag group groupEnable enables) s = .next (t.answered tag 0x0D code [])
    (enables.length ≠ 8 → result s .badRequest) ∧
    (enables.length = 8 →
      7 ≤ group.toNat ∨ 2 ≤ groupEnable.toNat ∨
        (∃ g : Group, group.toNat = g.number ∧ ∀ m : FactorBits, groupField g m ≠ enables) →
      result s .range) ∧
    (∀ (g : Group) (m : FactorBits), group.toNat = g.number → groupEnable.toNat < 2 → groupField g m = enables →
      ∃ (on : FactorBits) (groups : BitVec 7),
        result { s with cond := { s.cond with enables := on, groupEnables := groups } } .ok ∧
        (∀ f, on.get f = if f.group = g then m.get f else s.cond.enables.get f) ∧
        ∀ k : Group, groups.getLsbD k.number = if k = g then groupEnable == 1 else s.cond.groupEnables.getLsbD k.number)

/-- R121, R123, R177: SET_PHASE, with the hold counts zeroed at entry to HOLD only, and RESET_LOAD_HISTORY, which answers the new
peak. -/
def Obligations.PhaseAndPeakRequestsAnswer : Prop :=
  ∀ (s : State) (tag phase : Byte), s.Quiet →
    let result (t : State) (code : Code) : Prop := exec (.setPhase tag phase) s = .next (t.answered tag 0x0E code [])
    (3 ≤ phase.toNat → result s .range) ∧
    (∀ p : Phase, phase.toNat = p.number →
      (s.hist.phase = p → result s .already) ∧
      (s.hist.phase ≠ p → p ≠ .hold → result { s with hist := { s.hist with phase := p } } .ok) ∧
      (s.hist.phase ≠ p → p = .hold →
        result { s with hist := { s.hist with phase := p, holdCounts := tabulate fun _ => 0 } } .ok)) ∧
    exec (.resetLoadHistory tag) s =
      .next (State.answered { s with hist := { s.hist with pMax := s.hist.pressure } } tag 0x0F .ok
        (beBytes 4 s.hist.pressure))

/-- R165, R178, R179, R180: SOFT_RESET puts every block in its soft-reset condition, keeps tables, CRCs, lock, enables, phase, the
frame in flight and the readiness report, and leaves its OK as the only response. The link clock runs on (log 4), and the stamp of the
last row starts at 0 again (log 11). -/
def Obligations.SoftResetAnswers : Prop :=
  ∀ (s : State) (tag : Byte), s.Quiet →
    exec (.softReset tag) s = .next
      { State.reset with
        now := s.now
        dets := tabulate fun ch => Detector.reset s.tables.channel[ch]
        hist := { LoadHistory.reset .ramp with phase := s.hist.phase }
        rq := { RecordQueues.reset with
          tx := s.rq.tx, ready := s.rq.ready, responses := [{ tag := tag, kind := 0x10, code := .ok, body := [] }] }
        tables := s.tables
        crcs := s.crcs
        lock := s.lock
        cond := { s.cond with factors := FactorBits.none }
        lastReset := .soft
        pending := s.pending }

/-! ## The link -/

/-- R167, R194, R197, R198, R200: a frame that is not good gets no response: downlink_frame_errors advances, and LINK.FRAME_ERROR is
set, with a notice at the clear-to-set edge where both enables are on, none for the factor waits and the queue has room. A frame is
bad when its end came early, its check is wrong, its kind is unknown, or its payload is empty or too long. -/
def Obligations.BadFramesAreCounted : Prop :=
  (∀ (s : State) (wire : List Byte), s.AtRest → goodRequest wire = none →
    let counted : State := { s with link := { s.link with frameErrors := s.link.frameErrors + 1 } }
    let latched : State := { counted with cond := { s.cond with factors := s.cond.factors.on .frameError } }
    let notice : Notice := { factor := .frameError, index := 0, state := none, time := s.tt }
    let enabled := s.cond.enables.get .frameError = true ∧ s.cond.groupEnables.getLsbD 6 = true
    let queues := (∀ n ∈ s.rq.notices, n.factor ≠ .frameError) ∧ s.rq.notices.length < 16
    let result (t : State) : Prop := exec (.downlinkFrameEnd wire) s = .next t
    (s.cond.factors.get .frameError = true → result counted) ∧
    (s.cond.factors.get .frameError = false → ¬ (enabled ∧ queues) → result latched) ∧
    (s.cond.factors.get .frameError = false → enabled → queues →
      result { latched with rq := { s.rq with notices := s.rq.notices ++ [notice] } })) ∧
  (∀ (kind : Byte) (payload : List Byte) (check : Nat), payload.length < 65536 → check < 65536 →
    let wire := escapeBytes (checkedBytes kind payload ++ beBytes 2 check)
    (payload = [] ∨ 107 < payload.length ∨ kind = 0 ∨ 0x10 < kind.toNat ∨ check ≠ crc16 (checkedBytes kind payload) →
      goodRequest wire = none) ∧
    ∀ n, n < wire.length → goodRequest (wire.take n) = none)

/-- R168, R169: a request that meets a full Response Queue, with no frame start to free it, waits at the tail of the inbound queue;
with eight waiting already it is dropped, counted, and sets LINK.REQUEST_DROPPED. -/
def Obligations.RequestsWaitOrAreDropped : Prop :=
  ∀ (s : State) (i : Instr) (r : Request), requestOf i = some r → s.canStart = false → 4 ≤ s.rq.responses.length →
    (s.link.inbound.length < 8 →
      exec i s = .next { s with link := { s.link with inbound := s.link.inbound ++ [r] } }) ∧
    (8 ≤ s.link.inbound.length →
      exec i s = .next (setFactor .requestDropped 0 none { s with link := { s.link with dropped := s.link.dropped + 1 } }))

/-! ## The clock -/

/-- R2, R10, R20, R31: lock achieved in LOCKING starts the ticks, ends the controller's LOCKING substep, sends the lanes of enabled
channels to SYNCING and starts the pressure slot. In any other state of the synthesizer the indication is ignored. -/
def Obligations.LockAchievedStartsTicks : Prop :=
  ∀ s : State,
    ((∀ e, s.synth ≠ .locking e) → exec .lockAchieved s = .next s) ∧
    (∀ e, s.AtRest → s.synth = .locking e →
      let locked (a : Acq) : State :=
        { s with
          synth := .locked
          acq := a
          lanes := tabulate fun ch =>
            let l := s.lanes[ch]
            if s.dets[ch].active.enabled then
              { l with state := .syncing, goodRun := 0, syncTicks := 0, framingList := [], missingRun := 0, fullRun := 0,
                       cleanRun := 0, declared := false }
            else { l with declared := false }
          pl := { s.pl with slotTicks := 0, slotFilled := false } }
      (∀ t, s.acq = .starting t .locking → exec .lockAchieved s = .next (locked (.starting t (.syncing 0)))) ∧
      ((∀ t, s.acq ≠ .starting t .locking) → exec .lockAchieved s = .next (locked s.acq)))

/-- R1, R2, R28, R30: the lock timer's expiry in LOCKING fails the start with cause LOCK: the synthesizer stops, CLOCK.LOCK_FAIL and
then ACQ.START_FAILED are set, and the part is OFF. The clock has passed to the timer's end (log 4), and the stopped interval
timer reads 0 ticks (log 19). Elsewhere the timer does not run, and the command changes nothing (log 3). -/
def Obligations.LockTimerExpiryFailsStart : Prop :=
  ∀ s : State,
    ((∀ e, s.synth ≠ .locking e) → exec .lockTimerExpiry s = .next s) ∧
    (∀ e t, s.AtRest → s.synth = .locking e → s.acq = .starting t .locking → (∀ ch : Channel, s.dets[ch].open? = none) →
      (∀ l, s.loader = some l → e ≤ l.expiry) →
      exec .lockTimerExpiry s = .next
        (setFactor .startFailed 0 none
          { (setFactor .lockFail 0 none { s with synth := .stopped, now := max s.now e }).wentOff with
            lastFail := some .lock }))

/-- R4, R22, R28, R35, R50, R53, R55, R57, R115: a loss of lock while LOCKED forces the part to OFF from every acquisition state:
CLOCK.LOCK_LOST is set; every open hit closes with CLOCK_FAULT and is handed on, in ascending channel number, with its detector in a
rearm hold of rht and its run at 0; then every context dissolves, the synthesizer stops and PL resynchronizes. Otherwise it is ignored.
A stopped interval timer reads 0 ticks (log 19), and the closure tick is the stamp of the last row (log 11). -/
def Obligations.LockLostForcesOff : Prop :=
  ∀ s : State,
    (s.synth ≠ .locked → exec .lockLost s = .next s) ∧
    (s.AtRest → s.synth = .locked → ∃ t : State, exec .lockLost s = .next t ∧
      t = { s with
        acq := .off
        synth := .stopped
        dets := t.dets
        lanes := tabulate fun ch => s.lanes[ch].toOff
        pl := { s.pl with state := .syncing, slotTicks := 0, slotFilled := false, missingRun := 0 }
        asm := { s.asm with contexts := Vector.replicate 4 none, eventsDissolved := t.asm.eventsDissolved }
        timer := { s.timer with period := none, ticks := 0, figures := t.timer.figures }
        wave := t.wave
        cond := { s.cond with factors := t.cond.factors }
        rq := { s.rq with hits := t.rq.hits, notices := t.rq.notices, shed := t.rq.shed, counts := t.rq.counts } } ∧
      (∀ ch : Channel, t.dets[ch] = s.dets[ch].forcedOff s.acq) ∧
      (∀ ch : Channel, t.dets[ch].machine = .blocked ∧ t.dets[ch].waiting = none ∧
        t.dets[ch].hitsOpened = s.dets[ch].hitsOpened ∧ t.dets[ch].noise = s.dets[ch].noise) ∧
      (let handed := (s.forcedClosures .clockFault).foldl (fun s h => handOn h s) (setFactor .lockLost 0 none s)
       let u := dissolveAll handed
       t.rq = u.rq ∧ t.wave = u.wave ∧ t.asm = u.asm ∧ t.cond = u.cond ∧ t.timer.figures = u.timer.figures) ∧
      s.wave.sendList <+: t.wave.sendList ∧ t.wave.rings = s.wave.rings ∧ s.rq.hits <+: t.rq.hits ∧
      t.cond.factors.get .lockLost = true)

/-! ## The tick -/

/-- R6, R20, R31, R32, R42, R51, R59, R84, R127: a row in which every lane is OFF moves the counts that every tick moves, and nothing
else. Without a LOCKED synthesizer there is no tick (log 6). -/
def Obligations.RowWithoutSamples : Prop :=
  ∀ (s : State) (words : Vector LaneWord 16),
    (s.synth ≠ .locked → exec (.sampleRow words) s = .next s) ∧
    (s.AtRest → s.synth = .locked → s.NothingDue → (∀ ch : Channel, s.lanes[ch].state = .off) → (∀ t, s.acq ≠ .draining t) →
      let row (a : Acq) (cover : Detector → Bool) : State :=
        { s with
          tt := s.tt + 1
          rowTT := s.tt
          acq := a
          lanes := tabulate fun ch => { s.lanes[ch] with tickNumber := s.lanes[ch].tickNumber + 1 }
          dets := tabulate fun ch =>
            { s.dets[ch] with rearm := s.dets[ch].rearm - 1, learnCover := cover s.dets[ch] }
          guard := tabulate fun ch => s.guard[ch] - 1
          pl := { s.pl with slotTicks := s.pl.slotTicks + 1 }
          timer := if s.timer.period.isSome then { s.timer with ticks := s.timer.ticks + 1 } else s.timer }
      let result (t : State) : Prop := exec (.sampleRow words) s = .next t
      (s.acq = .off ∨ s.acq = .standby ∨ s.acq = .armed ∨ (∃ t, s.acq = .starting t .locking) →
        result (row s.acq Detector.learnCover)) ∧
      (∀ t n, s.acq = .starting t (.syncing n) → result (row (.starting t (.syncing (n + 1))) Detector.learnCover)) ∧
      (∀ t n length, s.acq = .starting t (.settling n length) →
        result (row (.starting t (.settling (n + 1) length)) Detector.learnCover)) ∧
      (∀ n period, s.acq = .learning n period → result (row (.learning (n + 1) period) fun _ => false)))

/-- R3, R6, R9, R20, R31, R32, R37, R38, R42, R84, R87, R127: a row of a LOCKED synthesizer, whatever its words. The channels take
their words in ascending number, each lane just before its detector (log 8); then the row's DATA openings are released in
ascending number; then the guard counts fall and the counts of slot, interval and controller rise; then a drain is tested (log
10), and one that ends comes before every expiry of that tick (log 35, log 37; a stopped interval timer reads 0 ticks, log 19).
The row carries the Test Time in force, Test Time and every receiver's tick number advance by one, and what no row moves stays.
The stamp of the last row is the model's own field (log 11). Where expiries are due, the row takes them first, as their commands
would in the order of log 9 (log 3). -/
def Obligations.RowStampsAndCounts : Prop :=
  (∀ (s : State) (words : Vector LaneWord 16), s.AtRest → s.synth = .locked → s.NothingDue →
    let turn (row : State × List Channel) (ch : Channel) : State × List Channel :=
      let t := takeChannel words ch row.1
      (t.state, if t.opened && (t.state.dets[ch].open?.any fun h => h.role == .data) then row.2 ++ [ch] else row.2)
    let row := ([0, 1, 2, 3, 4, 5, 6, 7, 8, 9, 10, 11, 12, 13, 14, 15] : List Channel).foldl turn (s, [])
    let judged := row.2.foldl (fun s ch => judgeOpening ch s) row.1
    let counted : State :=
      { judged with
        guard := tabulate fun ch => judged.guard[ch] - 1
        pl := { judged.pl with slotTicks := judged.pl.slotTicks + 1 }
        timer := if judged.timer.period.isSome then { judged.timer with ticks := judged.timer.ticks + 1 } else judged.timer
        acq := match s.acq with
          | .starting t (.syncing n) => .starting t (.syncing (n + 1))
          | .starting t (.settling n length) => .starting t (.settling (n + 1) length)
          | .learning n period => .learning (n + 1) period
          | .off | .starting _ .locking | .standby | .armed | .draining _ => s.acq }
    let result (t : State) : Prop := exec (.sampleRow words) s = .next { t with rowTT := s.tt, tt := s.tt + 1 }
    ((∀ d, s.acq ≠ .draining d) ∨ ¬ counted.NothingOpen → result counted) ∧
    (s.acq = .draining .standby → counted.NothingOpen →
      result (setFactor .stateReached 0 (some 2) { counted with acq := .standby, timer := counted.timerAtStart })) ∧
    (s.acq = .draining .off → counted.NothingOpen → result (setFactor .stateReached 0 (some 0) counted.wentOff))) ∧
  (∀ (s u : State) (words : Vector LaneWord 16), s.synth = .locked →
    let all (command : Channel → Instr) : List Instr := channels.map command
    let due : List Instr :=
      all .laneSyncTimeout ++ all .laneSettleEnd ++ all .rearmExpiry
        ++ [.intervalExpiry, .plSlotEnd, .syncingSubstepEnd, .settlingSubstepEnd, .learningEnd, .windowExpiry]
    let take (o : Host.Outcome State Fault Refusal) (c : Instr) : Host.Outcome State Fault Refusal :=
      match o with
      | .next t => exec c t
      | .fault f => .fault f
      | .refused r => .refused r
    due.foldl take (.next s) = .next u →
      (u.synth = .locked → u.NothingDue → exec (.sampleRow words) s = exec (.sampleRow words) u) ∧
      (u.synth ≠ .locked → exec (.sampleRow words) s = .next u)) ∧
  ∀ (s : State) (words : Vector LaneWord 16), s.AtRest → s.synth = .locked → s.NothingDue →
    ∃ t : State, exec (.sampleRow words) s = .next t ∧ t.rowTT = s.tt ∧ t.tt = s.tt + 1 ∧
      (∀ ch : Channel, t.lanes[ch].tickNumber = s.lanes[ch].tickNumber + 1) ∧
      ((∀ d, s.acq ≠ .draining d) → t.synth = .locked ∧ t.pl = { s.pl with slotTicks := s.pl.slotTicks + 1 }) ∧
      t.now = s.now ∧ t.lastFail = s.lastFail ∧ t.tables = s.tables ∧ t.crcs = s.crcs ∧ t.loader = s.loader ∧
      t.lock = s.lock ∧ t.link = s.link ∧ t.cond.enables = s.cond.enables ∧ t.cond.groupEnables = s.cond.groupEnables ∧
      t.hist.pressure = s.hist.pressure ∧ t.hist.pMax = s.hist.pMax ∧ t.hist.phase = s.hist.phase ∧
      t.rq.responses = s.rq.responses ∧ t.rq.tx = s.rq.tx ∧ t.rq.ready = s.rq.ready ∧ t.timer.slot = s.timer.slot ∧
      t.lastReset = s.lastReset ∧ t.pending = s.pending ∧ s.rq.hits <+: t.rq.hits ∧ s.rq.events <+: t.rq.events

/-! ## Expiries of tick counts -/

/-- R11, R12, R17, R51, R57, R58: the end of a rearm hold, of a lane's settle period and of a sync search without word sync, each
where it is due; elsewhere the command changes nothing (log 3). -/
def Obligations.ChannelExpiries : Prop :=
  ∀ (s : State) (ch : Channel),
    let d := s.dets[ch]
    let l := s.lanes[ch]
    (¬ (d.machine = .rearmHold ∧ d.rearm = 0) → exec (.rearmExpiry ch) s = .next s) ∧
    (¬ (l.state = .settling ∧ l.settleLength ≤ l.settleTicks) → exec (.laneSettleEnd ch) s = .next s) ∧
    (¬ (l.state = .syncing ∧ 4000 ≤ l.syncTicks) → exec (.laneSyncTimeout ch) s = .next s) ∧
    (s.AtRest →
      (d.machine = .rearmHold → d.rearm = 0 →
        (d.waiting = none →
          exec (.rearmExpiry ch) s = .next { s with dets := upd s.dets ch fun d => { d with machine := .idle } }) ∧
        (∀ e, d.waiting = some e →
          exec (.rearmExpiry ch) s = .next
            { s with
              dets := upd s.dets ch fun d =>
                { Detector.given e d with machine := if e.enabled then .idle else .blocked }
              lanes := upd s.lanes ch fun l =>
                if e.enabled then
                  if s.synth = .locked ∧ s.acq ≠ .off ∧ l.state = .off then l.toSyncing else l
                else l.toOff })) ∧
      (l.state = .settling → l.settleLength ≤ l.settleTicks →
        exec (.laneSettleEnd ch) s = .next { s with lanes := upd s.lanes ch fun l => { l with state := .live false } }) ∧
      (l.state = .syncing → 4000 ≤ l.syncTicks →
        exec (.laneSyncTimeout ch) s = .next
          (setFactor (.laneFault (ch.castLE (by decide))) ch.val none
            { s with lanes := upd s.lanes ch fun l =>
              { l with state := .faulted .noSync, lastFault := some .noSync, faultEntries := l.faultEntries + 1,
                       cleanRun := 0 } })))

/-- R17, R30, R31, R32, R38, R59, R126: the ends of the SYNCING and SETTLING substeps, each where it is due; elsewhere the command
changes nothing (log 3). The sync searches that time out on the same tick do so first (R30, log 9). Where the start fails, the stopped
interval timer reads 0 ticks (log 19). -/
def Obligations.StartingSubstepsEnd : Prop :=
  ∀ s : State,
    let synced := ∃ ch : Channel,
      s.tables.channel[ch].enabled = true ∧ s.tables.channel[ch].role = .data ∧ s.lanes[ch].declared = true
    let timedOut (ch : Channel) : Prop := s.lanes[ch].state = .syncing ∧ 4000 ≤ s.lanes[ch].syncTicks
    ((∀ t n, s.acq = .starting t (.syncing n) → n < 4000) → exec .syncingSubstepEnd s = .next s) ∧
    ((∀ t n length, s.acq = .starting t (.settling n length) → n < length) → exec .settlingSubstepEnd s = .next s) ∧
    (s.AtRest →
      (∀ t n, s.acq = .starting t (.syncing n) → 4000 ≤ n →
        (synced → (∀ ch, ¬ timedOut ch) →
          exec .syncingSubstepEnd s =
            .next { s with acq := .starting t (.settling 0 (s.tables.setup.settleMs * 2000)) }) ∧
        (¬ synced → (∀ ch, ¬ timedOut ch) → (∀ ch : Channel, s.dets[ch].open? = none) →
          exec .syncingSubstepEnd s =
            .next (setFactor .startFailed 1 none { s.wentOff with lastFail := some .noLane })) ∧
        ∃ u : State, exec .syncingSubstepEnd s = .next u ∧ u.tt = s.tt ∧ u.tables = s.tables ∧ u.link = s.link ∧
          (∀ ch, timedOut ch →
            u.lanes[ch].lastFault = some .noSync ∧ u.lanes[ch].faultEntries = s.lanes[ch].faultEntries + 1 ∧
            u.cond.factors.get (.laneFault (ch.castLE (by decide))) = true) ∧
          (∀ ch, ¬ timedOut ch →
            u.lanes[ch].lastFault = s.lanes[ch].lastFault ∧ u.lanes[ch].faultEntries = s.lanes[ch].faultEntries) ∧
          (synced → u.acq = .starting t (.settling 0 (s.tables.setup.settleMs * 2000)) ∧ u.synth = s.synth ∧
            ∀ ch, timedOut ch → u.lanes[ch].state = .faulted .noSync) ∧
          (¬ synced → u.acq = .off ∧ u.synth = .stopped ∧ u.lastFail = some .noLane ∧
            u.cond.factors.get .startFailed = true ∧ ∀ ch : Channel, u.lanes[ch].state = .off)) ∧
      (∀ n length, length ≤ n →
        (s.acq = .starting .standby (.settling n length) →
          exec .settlingSubstepEnd s = .next
            (setFactor .stateReached 0 (some 2) { s with acq := .standby, timer := s.timerAtStart })) ∧
        (s.acq = .starting .armed (.settling n length) →
          exec .settlingSubstepEnd s = .next
            { s with
              acq := .learning 0 (s.tables.setup.learnMs * 2000)
              timer := s.timerAtStart
              dets := tabulate fun j => { s.dets[j] with learnSum := 0, learnCount := 0, learnCover := true } })))

/-- R32, R34, R38, R41, R60, R67, R84: the end of a learning period, where it is due: every detector takes its learned noise and its
thresholds, LANE.NOISY is set where the noise comes within 6 dB, and the part is ARMED with every guard count 0. Elsewhere the
command changes nothing (log 3). -/
def Obligations.LearningEndArms : Prop :=
  ∀ s : State,
    ((∀ n p, s.acq = .learning n p → n < p) → exec .learningEnd s = .next s) ∧
    (∀ n p, s.AtRest → s.acq = .learning n p → p ≤ n → ∃ t : State, exec .learningEnd s = .next t ∧
      t = { s with
        acq := .armed
        guard := tabulate fun _ => 0
        dets := t.dets
        cond := { s.cond with factors := t.cond.factors }
        rq := { s.rq with notices := t.rq.notices } } ∧
      (∀ ch : Channel,
        let d := s.dets[ch]
        ∃ noise : Option Nat,
          t.dets[ch] = { d with
            noise := noise
            thrDb := thrDbOf d.active noise
            thrCode := thrCodeOf (thrDbOf d.active noise) d.active.lsbNv } ∧
          (d.learnCover = false → noise = none) ∧
          (d.learnCover = true → d.learnCount ≠ 0 →
            noise = some (ladderLevel (d.learnSum.toNat / d.learnCount) d.active.lsbNv)) ∧
          (t.cond.factors.get (.noisy ch) = true ↔
            s.cond.factors.get (.noisy ch) = true ∨ ∃ level, noise = some level ∧ t.dets[ch].thrDb < level + 6)) ∧
      t.cond.factors.get .stateReached = true ∧
      ∀ f, f ≠ .stateReached → (∀ ch, f ≠ .noisy ch) → t.cond.factors.get f = s.cond.factors.get f)

/-- R3, R37, R99, R100: the end of one context's window: released with one member, SETTLING with an open member left; the drain test
follows, and a drain to OFF that ends there lets the tick in progress complete (log 31). Where no window has ended the command changes
nothing (log 3). -/
def Obligations.WindowExpiryJudges : Prop :=
  ∀ s : State,
    let ended (c : Context) : Prop :=
      c.settling = false ∧ ticksBetween c.windowEnd c.openTime < ticksBetween s.tt c.openTime
    (s.synth ≠ .locked ∨ (∀ (j : Fin 4) (c : Context), s.asm.contexts[j] = some c → ¬ ended c) →
      exec .windowExpiry s = .next s) ∧
    (∀ (k : Fin 4) (c : Context), s.AtRest → s.synth = .locked → s.asm.contexts[k] = some c → ended c →
      (∀ (j : Fin 4) (b : Context), s.asm.contexts[j] = some b → ended b → j = k) →
      let released : State :=
        { s with asm := { s.asm with
            contexts := upd s.asm.contexts k fun _ => none
            contextsReleased := s.asm.contextsReleased + 1 } }
      let result (t : State) : Prop := ∃ u : State, exec .windowExpiry s = .next u ∧ DrainTested t u
      (∀ m, c.members = [m] →
        (∀ h, m.parked = some h → result (offerStandalone { eventId := none, lost := false } h released)) ∧
        (m.parked = none → s.wave.find m.channel m.hitId = none → result released)) ∧
      (2 ≤ c.members.length → (∃ m ∈ c.members, m.parked = none) →
        result { s with asm := { s.asm with contexts := upd s.asm.contexts k fun _ => some { c with settling := true } } }))

/-- R3, R37, R106 to R112: the end of the window of a context whose members are all closed completes it: an event_id is taken; with room
in the Event Queue the record is queued with its location and tags, at shed level 0 or 1 its members follow with the event_id in rank
order, at level 2 or 3 they are shed, and in HOLD the zone's count advances; at a full queue the event is lost, and its members go out
with EVENT_LOST. The drain test follows (log 31). -/
def Obligations.WindowExpiryCompletes : Prop :=
  ∀ (s : State) (k : Fin 4) (c : Context) (m1 m2 : Member) (more : List Member) (p : PairEntry),
    s.AtRest → s.synth = .locked → s.asm.contexts[k] = some c → c.settling = false →
    ticksBetween c.windowEnd c.openTime < ticksBetween s.tt c.openTime →
    (∀ (j : Fin 4) (b : Context), s.asm.contexts[j] = some b → b.settling = false →
      ticksBetween b.windowEnd b.openTime < ticksBetween s.tt b.openTime → j = k) →
    c.members = m1 :: m2 :: more → (∀ m ∈ c.members, m.parked.isSome = true) →
    s.tables.pairOf m1.channel m2.channel = some p →
    ∃ t u : State, exec .windowExpiry s = .next u ∧ DrainTested t u ∧ Completed s t k c m1 m2 p

/-- R67, R127 to R130: the interval timer's expiry, where it is due, places the interval record in the slot and starts the figures
again; a record that it replaces is counted and marked. Its time is the stamp of the last row, or, after a ZERO_TIME since that row, Test
Time as it stands (log 11). Elsewhere the command changes nothing (log 3). -/
def Obligations.IntervalExpiryBuildsRecord : Prop :=
  ∀ s : State,
    ((∀ p, s.timer.period = some p → s.timer.ticks < p) → exec .intervalExpiry s = .next s) ∧
    (∀ p, s.AtRest → s.timer.period = some p → p ≤ s.timer.ticks →
      let record : IntervalRecord :=
        { time := if s.tt = s.rowTT + 1 then s.rowTT else s.tt, pressure := s.hist.pressure,
          pStale := decide (s.pl.state = .stale), pMax := s.hist.pMax,
          phase := s.hist.phase, shedLevel := s.rq.shed.val, acqState := s.acq.number,
          perChannel := tabulate fun ch =>
            let g := s.timer.figures[ch]
            { aslDb := if g.aslCount = 0 then none
                       else some (ladderLevel (g.aslSum.toNat / g.aslCount) s.dets[ch].active.lsbNv),
              opened := g.opened, lost := g.lost },
          eventsCompleted := s.timer.eventsCompleted, holdCounts := s.hist.holdCounts, digest := s.lock,
          prevReplaced := s.timer.slot.isSome }
      exec .intervalExpiry s = .next
        { s with timer :=
          { period := some p, ticks := 0, eventsCompleted := 0, slot := some record
            figures := tabulate fun _ => { aslSum := 0, aslCount := 0, opened := 0, lost := 0 }
            replaced := if s.timer.slot.isSome then s.timer.replaced + 1 else s.timer.replaced } })

/-- R20, R21, R118, R120: words and slot ends of the pressure lane. A good word into an unfilled slot gives the pressure and may raise
the peak; a malformed or a surplus word is counted; the fiftieth slot in a row without a good word makes PL STALE. While the
synthesizer is not LOCKED no slot runs (log 6), and a slot end before the slot's last tick changes nothing (log 3). -/
def Obligations.PressureLaneEvents : Prop :=
  ∀ s : State,
    ((s.synth ≠ .locked ∨ s.pl.slotTicks < 1000) → exec .plSlotEnd s = .next s) ∧
    (∀ word, s.synth ≠ .locked → exec (.pressureWord word) s = .next s) ∧
    (s.AtRest →
      (s.synth = .locked →
        (∀ code : Sample, s.pl.slotFilled = false →
          let sum : Int := (code.toNat * s.tables.setup.pGain / 4096 : Nat) + s.tables.setup.pOffsetKpa
          let kpa := if sum < 0 then 0 else if 250000 < sum then 250000 else sum.toNat
          exec (.pressureWord (.wellFormed code)) s = .next
            { s with
              hist := { s.hist with pressure := kpa, pMax := max s.hist.pMax kpa }
              pl := { s.pl with slotFilled := true, missingRun := 0, state := .live } }) ∧
        (∀ word, word = .malformed ∨ s.pl.slotFilled = true →
          exec (.pressureWord word) s = .next { s with pl := { s.pl with framingErrors := s.pl.framingErrors + 1 } }) ∧
        (1000 ≤ s.pl.slotTicks →
          (s.pl.slotFilled = true →
            exec .plSlotEnd s = .next { s with pl := { s.pl with slotTicks := 0, slotFilled := false } }) ∧
          (s.pl.slotFilled = false →
            let run := min (s.pl.missingRun + 1) 50
            (s.pl.missingRun + 1 < 50 ∨ s.pl.state = .stale →
              exec .plSlotEnd s = .next { s with pl := { s.pl with slotTicks := 0, missingRun := run } }) ∧
            (50 ≤ s.pl.missingRun + 1 → s.pl.state ≠ .stale →
              exec .plSlotEnd s = .next
                (setFactor (.laneFault 16) 16 none
                  { s with pl := { s.pl with slotTicks := 0, missingRun := run, state := .stale } }))))))

/-! ## The uplink -/

/-- R155, R156, R157, R144, R161: the readiness report and the scheduler's order: response, notices, event, hits, interval, waveform
piece. A frame that has left is counted, and the scheduler is called; with nothing in flight FRAME_SENT changes nothing (log 6). -/
def Obligations.SchedulerOrder : Prop :=
  (∀ s : State, s.rq.tx = none → exec .frameSent s = .next s) ∧
  ∀ s : State, s.link.inbound = [] →
    (∀ ready, ready = false ∨ s.rq.tx.isSome = true →
      exec (.readinessReport ready) s = .next { s with rq := { s.rq with ready := ready } }) ∧
    (∀ f, s.rq.tx = some f →
      let left : State := { s with rq := { s.rq with tx := none, framesSent := s.rq.framesSent + 1 } }
      (s.rq.ready = false → exec .frameSent s = .next left) ∧
      (s.rq.ready = true → exec .frameSent s = exec (.readinessReport true) left)) ∧
    (s.rq.tx = none →
      let sends (t : State) (f : UplinkFrame) : State := { t with rq := { t.rq with tx := some f, ready := true } }
      let result (t : State) : Prop := exec (.readinessReport true) s = .next t
      (∀ r rest, s.rq.responses = r :: rest →
        result (sends { s with rq := { s.rq with responses := rest } } (.response r))) ∧
      (s.rq.responses = [] →
        (s.rq.notices ≠ [] →
          result (sends { s with rq := { s.rq with notices := s.rq.notices.drop 4 } } (.notices (s.rq.notices.take 4)))) ∧
        (s.rq.notices = [] →
          (∀ e rest, s.rq.events = e :: rest →
            result (sends { s with rq := { s.rq with events := rest } } (.event e))) ∧
          (s.rq.events = [] →
            let eligible := ∃ q rest, s.rq.hits = q :: rest ∧
              (s.tables.setup.hitTrigger ≤ s.rq.hits.length ∨ s.tables.setup.flushUs ≤ s.now - q.entryTime)
            (eligible →
              result (evalShed (sends { s with rq := { s.rq with hits := s.rq.hits.drop 8 } }
                (.hits ((s.rq.hits.take 8).map QueuedHit.record))))) ∧
            (¬ eligible →
              (∀ i, s.timer.slot = some i → result (sends { s with timer := { s.timer with slot := none } } (.interval i))) ∧
              (s.timer.slot = none →
                (s.wave.sendList = [] → result { s with rq := { s.rq with ready := true } }) ∧
                (∀ i rest g, s.wave.sendList = i :: rest → s.wave.segments[i] = some g →
                  let piece : Piece :=
                    { segId := g.segId, channel := g.channel, hitId := g.hitId, index := g.nextPiece,
                      firstTime := g.firstTime + BitVec.ofNat 48 (256 * g.nextPiece),
                      samples := (g.samples.drop (256 * g.nextPiece)).take 256,
                      last := decide (g.samples.length ≤ 256 * (g.nextPiece + 1)), cut := g.cut }
                  (g.samples.length ≤ 256 * (g.nextPiece + 1) →
                    result (evalShed (sends
                      { s with wave := { s.wave with
                        segments := upd s.wave.segments i fun _ => none, sendList := rest, sent := s.wave.sent + 1
                        pieces := s.wave.pieces + 1 } }
                      (.waveform piece)))) ∧
                  (256 * (g.nextPiece + 1) < g.samples.length →
                    result (evalShed (sends
                      { s with wave := { s.wave with
                        segments := upd s.wave.segments i fun _ =>
                          some { g with state := .sending, blocks := g.blocks.tail, nextPiece := g.nextPiece + 1 }
                        pieces := s.wave.pieces + 1 } }
                      (.waveform piece)))))))))))

/-- R158: the flush expiry: with the transmitter IDLE, the receiver ready and no earlier source, the records at the head of the
Hit Queue leave in a frame, up to eight, at the moment the head has waited flush_us; without room to start a frame only the link
clock moves (log 4). With an empty queue its timer does not run, and the command changes nothing (log 3). -/
def Obligations.FlushExpirySends : Prop :=
  ∀ s : State,
    (s.rq.hits = [] → exec .flushExpiry s = .next s) ∧
    (∀ q rest, s.rq.hits = q :: rest → s.link.inbound = [] →
      let moment := q.entryTime + s.tables.setup.flushUs
      (∀ e, s.synth = .locking e → moment ≤ e) → (∀ l, s.loader = some l → moment ≤ l.expiry) →
      (s.canStart = false → exec .flushExpiry s = .next { s with now := max s.now moment }) ∧
      (s.rq.tx = none → s.rq.ready = true → s.rq.responses = [] → s.rq.notices = [] → s.rq.events = [] →
        exec .flushExpiry s = .next
          (evalShed
            { s with
              now := max s.now moment
              rq := { s.rq with hits := s.rq.hits.drop 8, tx := some (.hits ((s.rq.hits.take 8).map QueuedHit.record)) } })))

/-! ## Hit detection -/

/-- R42 to R45, R51, R53, R85, R135 to R137: what a detector makes of a sample while it holds no hit. In ARMED a BLOCKED detector
goes to IDLE and tests the sample, or to REARM_HOLD while rearm ticks remain; outside ARMED it takes none; in REARM_HOLD none is
tested. A sample in IDLE below the threshold code, or after the exhaustion of the hit identifiers, changes nothing; any other
opens a hit with the next hit_id, and a GUARD opening raises the guard counts of its mask. An opening on a channel with a waveform
mode takes the lowest FREE descriptor and the lowest free blocks, for the pretrigger samples and then the opening sample, or
carries WF_SKIPPED. That -32767 on a capped channel opens a hit without CLIPPED is log 33. -/
def Obligations.OpeningSetsTheHit : Prop :=
  (∀ (s : State) (ch : Channel) (smp : Sample),
    let d := s.dets[ch]
    let became (m : DetState) : State := { s with dets := upd s.dets ch fun d => { d with machine := m } }
    let untested (t : State) : Prop := takeSample ch smp s = { state := t, opened := false, closed := false }
    (d.machine = .blocked → s.acq = .armed → d.rearm = 0 → takeSample ch smp s = takeSample ch smp (became .idle)) ∧
    (d.machine = .blocked → s.acq = .armed → 0 < d.rearm → untested (became .rearmHold)) ∧
    (d.machine = .blocked → s.acq ≠ .armed → untested s) ∧
    (d.machine = .rearmHold → untested s)) ∧
  ∀ (s : State) (ch : Channel) (smp : Sample), s.dets[ch].machine = .idle →
    let d := s.dets[ch]
    (magnitude smp < d.thrCode ∨ s.nextHit = none →
      takeSample ch smp s = { state := s, opened := false, closed := false }) ∧
    (∀ id, d.thrCode ≤ magnitude smp → s.nextHit = some id → s.wave.find ch id = none →
      let e := d.active
      let hit (skipped : Bool) : OpenHit :=
        { hitId := id, arrival := s.tt, peak := magnitude smp, peakTime := s.tt, counts := 1, countsToPeak := 1,
          lastActivity := s.tt, prevActive := true, energySum := BitVec.ofNat 64 (magnitude smp * magnitude smp),
          tailSum := 0, clipped := fullScale smp, pressure := s.hist.pressure, pStale := decide (s.pl.state = .stale),
          openingLevel := d.thrDb, role := e.role, guarded := false, noContext := false, orphaned := false,
          wfSkipped := skipped }
      let opened (skipped : Bool) (wave : WaveStore) : State :=
        { s with
          nextHit := if id = 4294967295#32 then none else some (id + 1)
          dets := upd s.dets ch fun d => { d with machine := .inHit (hit skipped), hitsOpened := d.hitsOpened + 1 }
          timer := { s.timer with figures := upd s.timer.figures ch fun g => { g with opened := g.opened + 1 } }
          wave := wave
          guard := if e.role = .guard then
              tabulate fun j => if e.guardMask.getLsbD j.val then max s.guard[j] (e.guardWindow + 1) else s.guard[j]
            else s.guard }
      let opens (t : State) : Prop := takeSample ch smp s = { state := t, opened := true, closed := false }
      let needed := (e.wfMax + 255) / 256
      (e.wfMode = .off → opens (opened false s.wave)) ∧
      (e.wfMode ≠ .off →
        (s.rq.shed ≠ 0 ∨ (∀ i : Fin 64, s.wave.segments[i] ≠ none) ∨ s.wave.freeBlocks < needed →
          opens (opened true { s.wave with skipped := s.wave.skipped + 1 })) ∧
        (∀ i : Fin 64, s.rq.shed = 0 → needed ≤ s.wave.freeBlocks → s.wave.segments[i] = none →
          (∀ j : Fin 64, j < i → s.wave.segments[j] ≠ none) →
          let before := (s.wave.rings[ch].take e.wfPre).reverse
          let room := before.length < e.wfMax
          let segment : Segment :=
            { state := .filling, segId := s.wave.nextSeg, channel := ch, hitId := id, mode := e.wfMode,
              firstTime := s.tt - BitVec.ofNat 48 before.length, samples := if room then before ++ [smp] else before,
              capacity := e.wfMax, blocks := ((List.range 256).filter fun b => !s.wave.owns b).take needed, nextPiece := 0,
              cut := decide (¬ room) }
          opens (evalShed (opened false
            { s.wave with
              segments := upd s.wave.segments i fun _ => some segment
              nextSeg := s.wave.nextSeg + 1
              captured := s.wave.captured + 1 })))))

/-- R48, R49, R50, R52, R53, R56, R57, R137: a sample taken in IN_HIT closes the hit when hct ticks have passed since the last activity,
else truncates it when max_duration has passed since the arrival, else leaves it open; the hit's segment takes the sample in any case.
At a closure the rearm hold begins in ARMED, and the detector is BLOCKED in any other state; the closed hit is handed on; the continuous
run returns to 0, or advances and sets LANE.CONTINUOUS; and a BLOCKED detector applies a waiting entry. -/
def Obligations.ClosureFollowsItsTests : Prop :=
  ∀ (s : State) (ch : Channel) (smp : Sample) (h : OpenHit), s.dets[ch].machine = .inHit h →
    let d := s.dets[ch]
    let h' := h.update (decide (d.thrCode ≤ magnitude smp)) d.active.pst s.tt smp
    let normal := d.active.hct ≤ ticksBetween s.tt h'.lastActivity
    let truncated := d.active.maxDuration ≤ ticksBetween s.tt h'.arrival
    let r := takeSample ch smp s
    let wave : WaveStore :=
      match s.wave.find ch h.hitId with
      | none => s.wave
      | some i =>
        { s.wave with segments := upd s.wave.segments i fun o => o.map fun g =>
          if g.state ≠ .filling then g
          else if g.samples.length < g.capacity then { g with samples := g.samples ++ [smp] } else { g with cut := true } }
    let handed (cause : Closure) : State :=
      handOn (closedHitOf ch d.active s.tt cause h')
        { s with
          wave := wave
          dets := upd s.dets ch fun d =>
            { d with machine := if s.acq = .armed then .rearmHold else .blocked, rearm := d.active.rht } }
    let withRun (run : Nat) (s : State) : State := { s with dets := upd s.dets ch fun d => { d with contRun := run } }
    let ends (out : State) : Prop :=
      (s.acq = .armed ∨ d.waiting = none → r.state = out) ∧
      (∀ e, s.acq ≠ .armed → d.waiting = some e →
        r.state =
          { out with
            dets := upd out.dets ch (Detector.given e)
            lanes := upd out.lanes ch fun l =>
              if e.enabled then
                if s.synth = .locked ∧ s.acq ≠ .off ∧ l.state = .off then l.toSyncing else l
              else l.toOff })
    r.opened = false ∧
    (¬ normal → ¬ truncated →
      r.closed = false ∧ r.state = { s with wave := wave, dets := upd s.dets ch fun d => { d with machine := .inHit h' } }) ∧
    (normal → ends (withRun 0 (handed .normal))) ∧
    (¬ normal → truncated →
      let run := min (d.contRun + 1) 65535
      let counted := withRun run (handed .truncated)
      (run < s.tables.setup.continuousRun → ends counted) ∧
      (s.tables.setup.continuousRun ≤ run → ends (setFactor (.continuous ch) ch.val none counted))) ∧
    (normal ∨ truncated →
      r.closed = true ∧ r.state.dets[ch].machine = (if s.acq = .armed then .rearmHold else .blocked) ∧
      r.state.dets[ch].rearm = d.active.rht ∧ r.state.dets[ch].hitsOpened = d.hitsOpened ∧
      (s.acq = .armed → r.state.dets[ch].active = d.active ∧ r.state.dets[ch].waiting = d.waiting) ∧
      (s.acq ≠ .armed → r.state.dets[ch].waiting = none)) ∧
    (normal → r.state.dets[ch].contRun = 0) ∧
    (¬ normal → truncated →
      r.state.dets[ch].contRun = min (d.contRun + 1) 65535 ∧
      (s.tables.setup.continuousRun ≤ min (d.contRun + 1) 65535 →
        r.state.cond.factors.get (.continuous ch) = true))

/-- R46, R47, R50, R66, R69 to R73, R76: what each sample makes of an open hit: activity, crossings, the clipping mark and the
peak rule; what the closed hit carries, with its features. The measurements of an open hit keep their order from sample to sample
and its peak stays at the threshold code or above; its energy sum is that of the squares up to the last active sample, with the
squares after it in the tail; and the features of the closed hit keep their ranges. -/
def Obligations.HitMeasurementsKeepTheirOrder : Prop :=
  (∀ (h : OpenHit) (active : Bool) (pst : Nat) (tick : TestTime) (smp : Sample),
    let h' := h.update active pst tick smp
    let crossing := active = true ∧ h.prevActive = false
    let replaces := h.peak < magnitude smp ∧ ticksBetween tick h.peakTime ≤ pst
    (crossing → h'.counts = min (h.counts + 1) 65535) ∧ (¬ crossing → h'.counts = h.counts) ∧
    h'.prevActive = active ∧ h'.lastActivity = (if active then tick else h.lastActivity) ∧
    (replaces → h'.peak = magnitude smp ∧ h'.peakTime = tick ∧ h'.countsToPeak = h'.counts) ∧
    (¬ replaces → h'.peak = h.peak ∧ h'.peakTime = h.peakTime ∧ h'.countsToPeak = h.countsToPeak) ∧
    (h'.guarded, h'.noContext, h'.orphaned, h'.wfSkipped) = (h.guarded, h.noContext, h.orphaned, h.wfSkipped)) ∧
  (∀ (h : OpenHit) (thr pst : Nat) (tick : TestTime) (smp : Sample),
    h.Measured tick → thr ≤ h.peak → ticksBetween tick h.arrival + 1 < 2 ^ 48 →
    let h' := h.update (decide (thr ≤ magnitude smp)) pst (tick + 1) smp
    h'.Measured (tick + 1) ∧ thr ≤ h'.peak ∧ h'.arrival = h.arrival ∧ h'.hitId = h.hitId ∧ h'.role = h.role ∧
    h'.openingLevel = h.openingLevel ∧ h'.pressure = h.pressure ∧ h'.pStale = h.pStale ∧
    (h'.clipped = true ↔ h.clipped = true ∨ smp.toInt = 32767 ∨ smp.toInt = -32768)) ∧
  (∀ (h : OpenHit) (thr pst : Nat) (tick : TestTime) (before after : List Sample),
    h.tailSum = 0 → (∀ smp, before.getLast? = some smp → thr ≤ magnitude smp) → (∀ smp ∈ after, magnitude smp < thr) →
    let take (p : OpenHit × TestTime) (smp : Sample) : OpenHit × TestTime :=
      (p.1.update (decide (thr ≤ magnitude smp)) pst (p.2 + 1) smp, p.2 + 1)
    let last := ((before ++ after).foldl take (h, tick)).1
    let squares (l : List Sample) : Nat := (l.map fun smp => magnitude smp * magnitude smp).sum
    last.energySum = h.energySum + BitVec.ofNat 64 (squares before) ∧ last.tailSum = BitVec.ofNat 64 (squares after)) ∧
  (∀ (h : OpenHit) (ch : Channel) (e : ChannelEntry) (tick : TestTime) (cause : Closure),
    h.Measured tick → h.openingLevel ≤ 100 →
    let c := closedHitOf ch e tick cause h
    c.amplitude = max (ladderLevel h.peak e.lsbNv) h.openingLevel ∧ c.amplitude ≤ 100 ∧ c.rise ≤ c.duration ∧
    1 ≤ c.countsToPeak ∧ c.countsToPeak ≤ c.counts ∧ c.counts ≤ 65535 ∧
    c.energy = min (h.energySum.toNat / 2 ^ e.energyShift) 4294967295) ∧
  (∀ (h : OpenHit) (ch : Channel) (e : ChannelEntry) (tick : TestTime) (cause : Closure),
    closedHitOf ch e tick cause h =
      { hitId := h.hitId, channel := ch, role := h.role, arrival := h.arrival, closureTick := tick, cause := cause,
        lastActivity := h.lastActivity, peak := h.peak, peakTime := h.peakTime, counts := h.counts, countsToPeak := h.countsToPeak,
        energyRaw := h.energySum, clipped := h.clipped, pressure := h.pressure, pStale := h.pStale, openingLevel := h.openingLevel,
        amplitude := max (ladderLevel h.peak e.lsbNv) h.openingLevel, duration := (h.lastActivity - h.arrival).toNat,
        rise := (h.peakTime - h.arrival).toNat, energy := min (h.energySum.toNat / 2 ^ e.energyShift) 4294967295,
        guarded := h.guarded, noContext := h.noContext, orphaned := h.orphaned, wfSkipped := h.wfSkipped })

/-- R79, R80, R81, R83: a hit is rejected exactly when its closure was NORMAL or TRUNCATED and an active rule of its channel rejects
its feature; a rejected hit of no context and no segment is counted and nothing else; a passed one is offered standalone. -/
def Obligations.FiltersJudgeClosedHits : Prop :=
  (∀ (rules : Vector FilterRule 8) (c : ClosedHit),
    filterRejects rules c = true ↔
      (c.cause = .normal ∨ c.cause = .truncated) ∧ ∃ i : Fin 8,
        let r := rules[i]
        let v := match r.feature with
          | .amplitude => c.amplitude
          | .duration => c.duration
          | .counts => c.counts
          | .rise => c.rise
          | .energy => c.energy
        r.active = true ∧ r.channelMask.getLsbD c.channel.val = true ∧
        ((r.action = .rejectInside ∧ r.low ≤ v ∧ v ≤ r.high) ∨ (r.action = .rejectOutside ∧ (v < r.low ∨ r.high < v)))) ∧
  (∀ (s : State) (c : ClosedHit), s.wave.find c.channel c.hitId = none →
    (∀ (k : Fin 4) (x : Context) (m : Member), s.asm.contexts[k] = some x → m ∈ x.members →
      ¬ (m.parked = none ∧ m.channel = c.channel ∧ m.hitId = c.hitId)) →
    (filterRejects s.tables.filter c = true →
      handOn c s =
        { s with rq := { s.rq with counts := upd s.rq.counts c.channel fun k => { k with filtered := k.filtered + 1 } } }) ∧
    (filterRejects s.tables.filter c = false →
      handOn c s = offerStandalone { eventId := none, lost := false } c s))

/-- R147 to R152, R160, R161: what the record of a closed hit holds: its features, a flag of its closure cause and the marks of
its path. A standalone record without a segment is shed, lost or admitted; a lost one adds to its channel's gap and sets
FLOW.HIT_LOSS, an admitted one takes the gap. An admitted record of a hit with a segment of mode ALL carries its seg_id, and the
segment joins the send list (R139). An evaluation of the shed level moves it by one step, by the occupancy of the Hit Queue and
the free blocks, and sets FLOW.SHED_CHANGED with the new level, or leaves everything as it is. -/
def Obligations.StandaloneRecordsAreShedLostOrAdmitted : Prop :=
  (∀ (c : ClosedHit) (tag : EventTag) (gap : Option Nat) (seg : Option Counter),
    recordOf c tag gap seg =
      { hitId := c.hitId, channel := c.channel, role := c.role, arrival := c.arrival, duration := c.duration, rise := c.rise,
        counts := c.counts, countsToPeak := c.countsToPeak, amplitude := c.amplitude, energy := c.energy, pressure := c.pressure,
        flags := {
          clipped := c.clipped, truncated := decide (c.cause = .truncated), laneFault := decide (c.cause = .laneFault),
          aborted := decide (c.cause = .aborted), clockFault := decide (c.cause = .clockFault), guarded := c.guarded,
          noContext := c.noContext, orphaned := c.orphaned, eventLost := tag.lost, wfSkipped := c.wfSkipped, pStale := c.pStale },
        eventId := tag.eventId, gap := gap, segId := seg }) ∧
  (∀ s : State,
    let n := s.rq.hits.length
    let f := 256 - (s.wave.segments.toList.map fun o => (o.map fun g => g.blocks.length).getD 0).sum
    let moves (level : Fin 4) : Prop :=
      evalShed s = setFactor .shedChanged level.val none { s with rq := { s.rq with shed := level } }
    let stays : Prop := evalShed s = s
    (s.rq.shed = 0 → (128 ≤ n ∨ f < 64 → moves 1) ∧ (n < 128 → 64 ≤ f → stays)) ∧
    (s.rq.shed = 1 →
      (192 ≤ n → moves 2) ∧ (n ≤ 64 → 128 ≤ f → moves 0) ∧ (n < 192 → 64 < n ∨ f < 128 → stays)) ∧
    (s.rq.shed = 2 → (256 ≤ n → moves 3) ∧ (n ≤ 128 → moves 1) ∧ (128 < n → n < 256 → stays)) ∧
    (s.rq.shed = 3 → (n ≤ 224 → moves 2) ∧ (224 < n → stays))) ∧
  ∀ (s : State) (c : ClosedHit) (tag : EventTag),
    let k := s.rq.counts[c.channel]
    let floor := 2 ≤ s.rq.shed.val ∧ c.role = .data ∧ c.amplitude < s.tables.setup.shedFloorDb
    let gap := if k.gap = 0 then none else some k.gap
    let admitted (seg : Option Counter) : RecordQueues :=
      { s.rq with
        hits := s.rq.hits ++ [{ record := recordOf c tag gap seg, entryTime := s.now }]
        counts := upd s.rq.counts c.channel fun k => { k with gap := 0, queued := k.queued + 1 } }
    (s.wave.find c.channel c.hitId = none →
      (floor →
        offerStandalone tag c s =
          { s with rq := { s.rq with counts := upd s.rq.counts c.channel fun k => { k with shed := k.shed + 1 } } }) ∧
      (¬ floor → 256 ≤ s.rq.hits.length →
        offerStandalone tag c s =
          setFactor .hitLoss 0 none
            { s with
              rq := { s.rq with counts := upd s.rq.counts c.channel fun k =>
                { k with lost := k.lost + 1, gap := min (k.gap + 1) 4294967295 } }
              timer := { s.timer with figures := upd s.timer.figures c.channel fun g => { g with lost := g.lost + 1 } } }) ∧
      (¬ floor → s.rq.hits.length < 256 → offerStandalone tag c s = evalShed { s with rq := admitted none })) ∧
    (∀ (i : Fin 64) (g : Segment), s.wave.find c.channel c.hitId = some i → s.wave.segments[i] = some g → g.mode = .all →
      ¬ floor → s.rq.hits.length < 256 →
      offerStandalone tag c s =
        evalShed
          { s with
            rq := admitted (some g.segId)
            wave := { s.wave with
              segments := upd s.wave.segments i fun _ => some { g with state := .complete }
              sendList := s.wave.sendList ++ [i] } })

/-- R82, R86, R94 to R97, R101 to R106, R111, R114, R115: a released DATA opening is GUARDED while its channel's guard count is
above 0; otherwise it joins the first COLLECTING context that admits it, in ascending open_time and number, or opens the lowest
FREE context if its channel has a pair, or stays unassociated, with NO_CONTEXT if a context would have been opened. Ascending
open_time is the order of the 48-bit values (log 22). A closed member that passes the filters is parked, with PARTIAL after a lane
fault, and a SETTLING context whose last open member it was completes, but not at a closure of an entry to OFF; a rejected one
leaves the context, which dissolves without its first channel or, once SETTLING, with one member left. At an entry to OFF for an
abort or a loss of lock every context in use dissolves, in ascending number. A dissolution offers its parked hits before its open
members are told of it (log 34). Members with a segment are stated with the Waveform Store. -/
def Obligations.OpeningsAreGuardedOrAssembled : Prop :=
  (∀ (s : State) (ch : Channel) (h : OpenHit), s.dets[ch].machine = .inHit h →
    let admits (c : Context) : Prop :=
      c.settling = false ∧ (∃ p, s.tables.pairOf c.first ch = some p ∧ ticksBetween h.arrival c.openTime ≤ p.dtMax) ∧
      ticksBetween h.arrival c.openTime ≤ ticksBetween c.windowEnd c.openTime ∧ ∀ m ∈ c.members, m.channel ≠ ch
    let paired := ∃ p ∈ s.tables.usedPairs, p.chA = ch ∨ p.chB = ch
    let member (dt : Nat) : Member := { channel := ch, hitId := h.hitId, arrival := h.arrival, dt := dt, parked := none }
    let put (k : Fin 4) (c : Context) : State :=
      { s with asm := { s.asm with contexts := upd s.asm.contexts k fun _ => some c } }
    let marked (f : OpenHit → OpenHit) : Vector Detector 16 := upd s.dets ch fun d => { d with machine := .inHit (f h) }
    (0 < s.guard[ch] →
      judgeOpening ch s =
        { s with
          dets := marked fun h => { h with guarded := true }
          rq := { s.rq with counts := upd s.rq.counts ch fun k => { k with guarded := k.guarded + 1 } } }) ∧
    (s.guard[ch] = 0 →
      (∀ (k : Fin 4) (c : Context), s.asm.contexts[k] = some c → admits c →
        (∀ (j : Fin 4) (b : Context), s.asm.contexts[j] = some b → admits b →
          c.openTime.toNat < b.openTime.toNat ∨ (c.openTime.toNat = b.openTime.toNat ∧ k ≤ j)) →
        judgeOpening ch s =
          put k { c with members := c.members ++ [member (ticksBetween h.arrival c.openTime)] }) ∧
      ((∀ (k : Fin 4) (c : Context), s.asm.contexts[k] = some c → ¬ admits c) →
        (¬ paired → judgeOpening ch s = s) ∧
        (∀ k : Fin 4, paired → s.asm.contexts[k] = none → (∀ j : Fin 4, j < k → s.asm.contexts[j] ≠ none) →
          judgeOpening ch s =
            put k
              { settling := false, first := ch, openTime := h.arrival,
                windowEnd := h.arrival + BitVec.ofNat 48 (s.tables.reach ch), zone := s.dets[ch].active.zone,
                pressure := h.pressure, pStale := h.pStale, pMax := s.hist.pMax, partialMark := false,
                members := [member 0] }) ∧
        (paired → (∀ k : Fin 4, s.asm.contexts[k] ≠ none) →
          judgeOpening ch s =
            { s with
              asm := { s.asm with hitsNoContext := s.asm.hitsNoContext + 1 }
              dets := marked fun h => { h with noContext := true } })))) ∧
  (∀ (s : State) (h : ClosedHit) (k : Fin 4) (c : Context) (before : List Member) (m : Member) (after : List Member),
    MemberClosure s h k c before m after → s.wave.find h.channel h.hitId = none →
    let put (s : State) (c : Context) : State :=
      { s with asm := { s.asm with contexts := upd s.asm.contexts k fun _ => some c } }
    let judged (s : State) (t : State) (c : Context) : Prop :=
      ((∃ n ∈ c.members, n.parked = none) → t = put s c) ∧
      (∀ m1 m2 more p, c.members = m1 :: m2 :: more → (∀ n ∈ c.members, n.parked.isSome = true) →
        s.tables.pairOf m1.channel m2.channel = some p → Completed s t k c m1 m2 p)
    let forced := h.cause = .aborted ∨ h.cause = .clockFault
    let parked : Context :=
      { c with members := before ++ { m with parked := some h } :: after
               partialMark := c.partialMark || decide (h.cause = .laneFault) }
    let left : Context := { c with members := before ++ after }
    let filtered : State :=
      { s with rq := { s.rq with counts := upd s.rq.counts h.channel fun k => { k with filtered := k.filtered + 1 } } }
    (filterRejects s.tables.filter h = false →
      (c.settling = false ∨ forced → handOn h s = put s parked) ∧
      (c.settling = true → ¬ forced → judged s (handOn h s) parked)) ∧
    (filterRejects s.tables.filter h = true →
      (h.channel = c.first ∨ (c.settling = true ∧ left.members.length ≤ 1) →
        Dissolved filtered (handOn h s) k left.members) ∧
      (h.channel ≠ c.first → c.settling = false → handOn h s = put filtered left) ∧
      (h.channel ≠ c.first → c.settling = true → 2 ≤ left.members.length →
        judged filtered (handOn h s) left))) ∧
  (∀ s : State,
    let turn (k : Fin 4) (a b : State) : Prop :=
      (∀ c, s.asm.contexts[k] = some c → Dissolved a b k c.members) ∧ (s.asm.contexts[k] = none → b = a)
    ∃ s1 s2 s3 : State, turn 0 s s1 ∧ turn 1 s1 s2 ∧ turn 2 s2 s3 ∧ turn 3 s3 (dissolveAll s))

/-! ## Lanes -/

/-- R9, R11 to R18, R42, R51, R54, R59, R67, R128, R133: what a receiver makes of a word in each of its states. A LIVE one
delivers the sample, or the held one for a malformed or missing word, until the eighth framing error in 1000 ticks, the fourth
missing word in a row or the 2000th full-scale sample in a row faults it; a SETTLING one delivers nothing and faults alike; a
SYNCING one is SETTLING after 8 good words in a row, with settle_ms taken there (log 36); a FAULTED one is SYNCING at the next
tick, but with cause STUCK it goes on, under the framing and silence checks, and is LIVE from the tick after 2000 clean samples. A
departure of a LIVE lane closes an open hit with LANE_FAULT and blocks the detector. In LEARNING a delivered sample is learned,
and a tick without one breaks the coverage. A channel's turn in a row, for each of its outcomes: a delivered sample goes to the
detector, to the pretrigger ring and into the ASL figures, whatever the state of the interval timer; and the rearm ticks remaining
fall by one unless a closure set them on this tick. -/
def Obligations.LiveLanesDeliverOrFault : Prop :=
  (∀ (l : Lane) (settleMs : Nat),
    let recent := l.framingList.filter fun e => decide ((l.tickNumber - e).toNat < 1000)
    let full (smp : Sample) : Bool := decide (smp.toInt = 32767 ∨ smp.toInt = -32768)
    let run (smp : Sample) : Nat := if full smp then l.fullRun + 1 else 0
    let ticked (l : Lane) : Lane := { l with tickNumber := l.tickNumber + 1 }
    let quiet (l : Lane) : LaneTick := { lane := ticked l, delivered := none, entered := false, fault := none }
    let faulted (entered : Bool) (cause : LaneCause) (l : Lane) : LaneTick :=
      { lane := ticked { l with state := .faulted cause, lastFault := some cause, faultEntries := l.faultEntries + 1, cleanRun := 0 },
        delivered := none, entered := entered, fault := some cause }
    let erred (list : List (BitVec 48)) : Lane :=
      { l with missingRun := 0, framingErrors := l.framingErrors + 1, framingList := list }
    let judges (entered : Bool) (takes : Sample → Lane → LaneTick) : Prop :=
      (∀ smp, l.tick settleMs (.wellFormed smp) = takes smp { l with held := smp, missingRun := 0 }) ∧
      (recent.length < 7 → l.tick settleMs .malformed = takes l.held (erred (recent ++ [l.tickNumber]))) ∧
      (7 ≤ recent.length → l.tick settleMs .malformed = faulted entered .framing (erred recent)) ∧
      (l.missingRun + 1 < 4 → l.tick settleMs .missing = takes l.held { l with missingRun := l.missingRun + 1 }) ∧
      (4 ≤ l.missingRun + 1 →
        l.tick settleMs .missing = faulted entered .silent { l with missingRun := l.missingRun + 1 })
    (l.state = .off → ∀ w, l.tick settleMs w = quiet l) ∧
    (l.state = .syncing →
      (∀ w, w = .malformed ∨ w = .missing →
        l.tick settleMs w = quiet { l with goodRun := 0, syncTicks := l.syncTicks + 1 }) ∧
      (∀ smp,
        let heard : Lane := { l with held := smp, goodRun := l.goodRun + 1, syncTicks := l.syncTicks + 1 }
        (l.goodRun + 1 < 8 → l.tick settleMs (.wellFormed smp) = quiet heard) ∧
        (8 ≤ l.goodRun + 1 →
          l.tick settleMs (.wellFormed smp) =
            quiet { heard with state := .settling, settleTicks := 0, settleLength := settleMs * 2000, declared := true }))) ∧
    (l.state = .settling →
      judges false fun smp l' =>
        if 2000 ≤ run smp then faulted false .stuck { l' with fullRun := run smp }
        else quiet { l' with fullRun := run smp, settleTicks := l.settleTicks + 1 }) ∧
    (∀ reported, l.state = .live reported →
      judges (!reported) fun smp l' =>
        if 2000 ≤ run smp then faulted (!reported) .stuck { l' with fullRun := run smp }
        else
          { lane := ticked { l' with state := .live true, fullRun := run smp }, delivered := some smp, entered := !reported,
            fault := none }) ∧
    (∀ cause, l.state = .faulted cause → cause ≠ .stuck →
      ∀ w, l.tick settleMs w =
        Lane.tick settleMs w
          { l with state := .syncing, goodRun := 0, syncTicks := 0, framingList := [], missingRun := 0, fullRun := 0,
                   cleanRun := 0 }) ∧
    (l.state = .faulted .stuck →
      (l.cleanRun < 2000 →
        judges false fun smp l' => quiet { l' with cleanRun := if full smp then 0 else l.cleanRun + 1 }) ∧
      (2000 ≤ l.cleanRun →
        ∀ w, l.tick settleMs w = Lane.tick settleMs w { l with state := .live false, fullRun := 0 }))) ∧
  (∀ (s : State) (words : Vector LaneWord 16) (ch : Channel) (cause : LaneCause), s.lanes[ch].state = .live true →
    s.acq = .armed → s.dets[ch].waiting = none →
    let r := s.lanes[ch].tick s.tables.setup.settleMs words[ch]
    r.fault = some cause →
    let left : State := setFactor (.laneFault (ch.castLE (by decide))) ch.val none { s with lanes := upd s.lanes ch fun _ => r.lane }
    (∀ h : OpenHit, s.dets[ch].machine = .inHit h → s.wave.find ch h.hitId = none →
      (∀ (k : Fin 4) (c : Context) (m : Member), s.asm.contexts[k] = some c → m ∈ c.members →
        ¬ (m.parked = none ∧ m.channel = ch ∧ m.hitId = h.hitId)) →
      takeChannel words ch s =
        { state := offerStandalone { eventId := none, lost := false } (closedHitOf ch s.dets[ch].active s.tt .laneFault h)
            { left with dets := upd s.dets ch fun d => { d with machine := .blocked, rearm := d.active.rht, contRun := 0 } }
          opened := false
          closed := true }) ∧
    (s.dets[ch].open? = none →
      takeChannel words ch s =
        { state := { left with dets := upd s.dets ch fun d => { d with machine := .blocked, rearm := d.rearm - 1 } }
          opened := false
          closed := false })) ∧
  (∀ (s : State) (words : Vector LaneWord 16) (ch : Channel),
    let r := s.lanes[ch].tick s.tables.setup.settleMs words[ch]
    let received : State :=
      { s with
        lanes := upd s.lanes ch fun _ => r.lane
        wave := { s.wave with rings := upd s.wave.rings ch fun ring => if r.entered then [] else ring } }
    let learns (f : Detector → Detector) (t : State) : State :=
      match s.acq with
      | .learning _ _ => { t with dets := upd t.dets ch f }
      | .off | .starting _ _ | .standby | .armed | .draining _ => t
    let lowered (t : State) : State := { t with dets := upd t.dets ch fun d => { d with rearm := d.rearm - 1 } }
    let uncovered : State := learns (fun d => { d with learnCover := false }) received
    (∀ smp, r.delivered = some smp →
      let t := takeSample ch smp received
      let consumed : State :=
        { t.state with
          wave := { t.state.wave with rings := upd t.state.wave.rings ch fun ring => (smp :: ring).take 1024 }
          timer := { t.state.timer with figures := upd t.state.timer.figures ch fun g =>
            { g with aslSum := g.aslSum + BitVec.ofNat 48 (magnitude smp), aslCount := g.aslCount + 1 } } }
      let learned := learns
        (fun d => { d with learnSum := d.learnSum + BitVec.ofNat 48 (magnitude smp), learnCount := d.learnCount + 1 }) consumed
      takeChannel words ch s =
        { state := if t.closed then learned else lowered learned, opened := t.opened, closed := t.closed }) ∧
    (r.delivered = none → r.fault = none →
      takeChannel words ch s = { state := lowered uncovered, opened := false, closed := false }) ∧
    (∀ cause, r.fault = some cause →
      s.lanes[ch].state = .settling ∨ (s.lanes[ch].state = .faulted .stuck ∧ s.lanes[ch].cleanRun < 2000) →
      takeChannel words ch s =
        { state := lowered (setFactor (.laneFault (ch.castLE (by decide))) ch.val none uncovered)
          opened := false
          closed := false })) ∧
  (∀ (s : State) (words : Vector LaneWord 16) (ch : Channel) (n period : Nat), s.acq = .learning n period →
    s.dets[ch].machine = .blocked → s.dets[ch].waiting = none →
    let d := s.dets[ch]
    let r := s.lanes[ch].tick s.tables.setup.settleMs words[ch]
    (∀ smp, r.delivered = some smp →
      (takeChannel words ch s).state.dets = upd s.dets ch fun _ =>
        { d with learnSum := d.learnSum + BitVec.ofNat 48 (magnitude smp), learnCount := d.learnCount + 1, rearm := d.rearm - 1 }) ∧
    (r.delivered = none →
      (takeChannel words ch s).state.dets = upd s.dets ch fun _ => { d with learnCover := false, rearm := d.rearm - 1 }))

/-! ## Waveforms -/

/-- R133, R135 to R143: the ring takes each LIVE sample and is empty again at a LIVE entry; the capture decision at an opening; a segment
takes the samples of its open hit up to its capacity and is cut by the first beyond it; at the closure it returns the blocks that no
sample fills; it is freed with a rejected, shed or lost hit, waits on the event of a parked one, becomes COMPLETE with an admitted record,
standalone in mode ALL or a member of an event in any mode, and is freed in mode EVENT_ONLY where the hit stands alone or leaves its
context open; and the pieces of a segment carry its samples in order, 256 to a piece, the last of them marked. Freeing returns the
descriptor and its blocks and evaluates the shed level. -/
def Obligations.CapturesAndPieces : Prop :=
  (∀ (s : State) (words : Vector LaneWord 16) (ch : Channel),
    let r := s.lanes[ch].tick s.tables.setup.settleMs words[ch]
    let old := if r.entered then [] else s.wave.rings[ch]
    (takeChannel words ch s).state.wave.rings =
      upd s.wave.rings ch fun _ => match r.delivered with | some smp => (smp :: old).take 1024 | none => old) ∧
  (∀ (s : State) (ch : Channel) (id : Counter) (arrival : TestTime),
    let e := s.dets[ch].active
    let needed := (e.wfMax + 255) / 256
    let free := (List.range 256).filter fun b => !s.wave.owns b
    let before := (s.wave.rings[ch].take e.wfPre).reverse
    (e.wfMode = .off → decideCapture ch id arrival s = s) ∧
    (e.wfMode ≠ .off →
      (s.rq.shed ≠ 0 ∨ (∀ i : Fin 64, s.wave.segments[i] ≠ none) ∨ s.wave.freeBlocks < needed →
        decideCapture ch id arrival s =
          { s with
            wave := { s.wave with skipped := s.wave.skipped + 1 }
            dets := upd s.dets ch (Detector.modOpen fun h => { h with wfSkipped := true }) }) ∧
      (∀ i : Fin 64, s.rq.shed = 0 → needed ≤ s.wave.freeBlocks → s.wave.segments[i] = none →
        (∀ j : Fin 64, j < i → s.wave.segments[j] ≠ none) →
        decideCapture ch id arrival s =
          evalShed
            { s with wave := { s.wave with
              segments := upd s.wave.segments i fun _ => some
                { state := .filling, segId := s.wave.nextSeg, channel := ch, hitId := id, mode := e.wfMode,
                  firstTime := arrival - BitVec.ofNat 48 before.length, samples := before, capacity := e.wfMax,
                  blocks := free.take needed, nextPiece := 0, cut := false }
              nextSeg := s.wave.nextSeg + 1
              captured := s.wave.captured + 1 } }))) ∧
  (∀ (s : State) (ch : Channel) (smp : Sample) (h : OpenHit) (i : Fin 64) (g : Segment),
    s.dets[ch].machine = .inHit h → s.wave.find ch h.hitId = some i → s.wave.segments[i] = some g → g.state = .filling →
    let r := takeSample ch smp s
    let filled (g : Segment) : WaveStore := { s.wave with segments := upd s.wave.segments i fun _ => some g }
    r.closed = false →
      (g.samples.length < g.capacity → r.state.wave = filled { g with samples := g.samples ++ [smp] }) ∧
      (g.capacity ≤ g.samples.length → r.state.wave = filled { g with cut := true })) ∧
  (∀ (s : State) (h : ClosedHit) (i : Fin 64) (g : Segment),
    s.wave.find h.channel h.hitId = some i → s.wave.segments[i] = some g →
    let keep := (g.samples.length + 255) / 256
    let tag : EventTag := { eventId := none, lost := false }
    let counted (f : ChannelCounts → ChannelCounts) : Vector ChannelCounts 16 := upd s.rq.counts h.channel f
    let freed (s : State) : State :=
      evalShed { s with wave := { s.wave with
        segments := upd s.wave.segments i fun _ => none, discarded := s.wave.discarded + 1 } }
    let gap := if s.rq.counts[h.channel].gap = 0 then none else some s.rq.counts[h.channel].gap
    let enters (s : State) (t : EventTag) (seg : Option Counter) : State :=
      evalShed { s with rq := { s.rq with
        hits := s.rq.hits ++ [{ record := recordOf h t gap seg, entryTime := s.now }]
        counts := upd s.rq.counts h.channel fun k => { k with gap := 0, queued := k.queued + 1 } } }
    let complete : State :=
      { s with wave := { s.wave with
        segments := upd s.wave.segments i fun _ => some { g with state := .complete }, sendList := s.wave.sendList ++ [i] } }
    let shed := freed { s with rq := { s.rq with counts := counted fun k => { k with shed := k.shed + 1 } } }
    let floor := 2 ≤ s.rq.shed.val ∧ h.role = .data ∧ h.amplitude < s.tables.setup.shedFloorDb
    (keep < g.blocks.length →
      handOn h s = handOn h (evalShed { s with wave := { s.wave with
        segments := upd s.wave.segments i fun _ => some { g with blocks := g.blocks.take keep } } })) ∧
    ((∀ (k : Fin 4) (c : Context) (m : Member), s.asm.contexts[k] = some c → m ∈ c.members → ¬ m.Closes h) →
      g.blocks.length ≤ keep →
      (filterRejects s.tables.filter h = true →
        handOn h s = freed { s with rq := { s.rq with counts := counted fun k => { k with filtered := k.filtered + 1 } } }) ∧
      (filterRejects s.tables.filter h = false → handOn h s = offerStandalone tag h s)) ∧
    (floor → offerStandalone tag h s = shed) ∧
    (¬ floor → 256 ≤ s.rq.hits.length →
      offerStandalone tag h s = setFactor .hitLoss 0 none
        (freed
          { s with
            rq := { s.rq with counts := counted fun k => { k with lost := k.lost + 1, gap := min (k.gap + 1) 4294967295 } }
            timer := { s.timer with figures := upd s.timer.figures h.channel fun f => { f with lost := f.lost + 1 } } })) ∧
    (¬ floor → s.rq.hits.length < 256 →
      (g.mode = .all → offerStandalone tag h s = enters complete tag (some g.segId)) ∧
      (g.mode ≠ .all → offerStandalone tag h s = enters (freed s) tag none)) ∧
    (∀ eventId : Counter, s.rq.hits.length < 256 →
      offerMember eventId h s = enters complete { eventId := some eventId, lost := false } (some g.segId)) ∧
    shedRecord h s = shed ∧
    (∀ (k : Fin 4) (c : Context) (before : List Member) (m : Member) (after : List Member),
      MemberClosure s h k c before m after → g.blocks.length ≤ keep → filterRejects s.tables.filter h = false →
      c.settling = false →
      let parked : Context :=
        { c with members := before ++ { m with parked := some h } :: after
                 partialMark := c.partialMark || decide (h.cause = .laneFault) }
      handOn h s =
        { s with
          wave := { s.wave with segments := upd s.wave.segments i fun _ => some { g with state := .waitEvent } }
          asm := { s.asm with contexts := upd s.asm.contexts k fun _ => some parked } }) ∧
    (g.mode = .eventOnly → segmentLeavesContext h.channel h.hitId s = freed s) ∧
    (g.mode ≠ .eventOnly → segmentLeavesContext h.channel h.hitId s = s)) ∧
  (∀ g : Segment,
    let pieces := (List.range ((g.samples.length + 255) / 256)).map fun i => Segment.piece { g with nextPiece := i }
    pieces.flatMap Piece.samples = g.samples ∧
    (∀ p ∈ pieces, p.samples.length ≤ 256 ∧ p.samples ≠ []) ∧
    (∀ i, i < (g.samples.length + 255) / 256 →
      ((Segment.piece { g with nextPiece := i }).last = true ↔ i + 1 = (g.samples.length + 255) / 256)))

/-! ## Conditions -/

/-- R194, R196 to R198: a group's summary is on exactly when an entry of the group is set and has its factor enable on; the group
enable does not enter it. A setting of a set entry has no effect; a setting of a clear entry sets it and no other, and where the
entry's factor enable and its group's enable are on it queues a notice with the index and the state it carries and Test Time as it
stands, unless one for the same entry waits or sixteen wait. A setting that carries no value has its channel or zone as its index,
or 0. -/
def Obligations.SummariesFollowEnabledFactors : Prop :=
  (∀ (c : Conditions) (g : Group),
    c.summary g = true ↔ ∃ f : Factor, f.group = g ∧ c.factors.get f = true ∧ c.enables.get f = true) ∧
  (∀ (s : State) (f other : Factor) (index : Nat) (reached : Option Nat),
    (setFactor f index reached s).cond.factors.get other = (s.cond.factors.get other || other == f) ∧
    (setFactor f index reached s).cond.enables = s.cond.enables ∧
    (setFactor f index reached s).cond.groupEnables = s.cond.groupEnables) ∧
  (∀ (s : State) (f : Factor) (index : Nat) (reached : Option Nat),
    let group : Nat :=
      match f with
      | .lockFail | .lockLost => 0
      | .stateReached | .startFailed | .aborted => 1
      | .laneFault _ | .noisy _ | .continuous _ => 2
      | .shedChanged | .hitLoss | .eventLoss => 3
      | .loadDone | .loadAbandoned | .lockChanged => 4
      | .holdActivity _ => 5
      | .frameError | .requestDropped => 6
    let latched : State := { s with cond := { s.cond with factors := s.cond.factors.on f } }
    let notice : Notice := { factor := f, index := index, state := reached, time := s.tt }
    let enabled := s.cond.enables.get f = true ∧ s.cond.groupEnables.getLsbD group = true
    let queues := (∀ n ∈ s.rq.notices, n.factor ≠ f) ∧ s.rq.notices.length < 16
    (s.cond.factors.get f = true → setFactor f index reached s = s) ∧
    (s.cond.factors.get f = false → ¬ (enabled ∧ queues) → setFactor f index reached s = latched) ∧
    (s.cond.factors.get f = false → enabled → queues →
      setFactor f index reached s = { latched with rq := { s.rq with notices := s.rq.notices ++ [notice] } })) ∧
  (∀ (s : State) (f : Factor),
    let index : Nat :=
      match f with
      | .laneFault i => i.val
      | .noisy ch | .continuous ch => ch.val
      | .holdActivity z => z.val
      | .lockFail | .lockLost | .stateReached | .startFailed | .aborted | .shedChanged | .hitLoss | .eventLoss | .loadDone
      | .loadAbandoned | .lockChanged | .frameError | .requestDropped => 0
    raise f s = setFactor f index none s)
end

