-- ==== Sys2Proof/Laws/Bytes.lean ====
section
/-! SUPPORT. What the byte-level operations do: big-endian fields, escapes, the frame check and the frame as it is read. -/

namespace Sys2Proof.Machine

/-- A number written in so many bytes fills so many bytes. -/
theorem beBytes_length (n x : Nat) : (beBytes n x).length = n := by
  induction n generalizing x with
  | zero => rfl
  | succ n ih => simp [beBytes, ih]

theorem beNat_foldl (a : Nat) (bs : List Byte) :
    bs.foldl (fun acc b => acc * 256 + b.toNat) a = a * 256 ^ bs.length + beNat bs := by
  induction bs generalizing a with
  | nil => simp [beNat]
  | cons b bs ih =>
    simp only [List.foldl_cons, beNat, List.length_cons]
    rw [ih, ih (0 * 256 + b.toNat)]
    ring

/-- Section 13.1: a field reads back as the number that was written, modulo what its bytes can hold. -/
theorem beNat_beBytes (n x : Nat) : beNat (beBytes n x) = x % 256 ^ n := by
  induction n generalizing x with
  | zero => simp [beBytes, beNat, Nat.mod_one]
  | succ n ih =>
    rw [beBytes]
    show List.foldl _ _ (_ :: _) = _
    rw [List.foldl_cons, beNat_foldl, beBytes_length, ih]
    simp only [BitVec.toNat_ofNat, Nat.zero_mul, Nat.zero_add]
    have : x / 256 ^ n % 2 ^ 8 = x / 256 ^ n % 256 := rfl
    rw [this, pow_succ, Nat.mod_mul]
    ring

/-- A field at the front is read as its value. -/
theorem fieldAt_beBytes_append (n x : Nat) (bs : List Byte) : fieldAt (beBytes n x ++ bs) 0 n = x % 256 ^ n := by
  rw [fieldAt, List.drop_zero, List.take_left' (beBytes_length n x), beNat_beBytes]

/-- A field in front of the one that is read is passed over. -/
theorem fieldAt_beBytes_skip (n x offset size : Nat) (bs : List Byte) (h : n ≤ offset) :
    fieldAt (beBytes n x ++ bs) offset size = fieldAt bs (offset - n) size := by
  rw [fieldAt, fieldAt, List.drop_append, List.drop_eq_nil_of_le (by rw [beBytes_length]; exact h), beBytes_length,
    List.nil_append]

/-- Section 13.1: a number in one byte is less than 256, and so on. -/
theorem beNat_lt (bs : List Byte) : beNat bs < 256 ^ bs.length := by
  induction bs with
  | nil => simp [beNat]
  | cons b bs ih =>
    show List.foldl _ _ (_ :: _) < _
    rw [List.foldl_cons, beNat_foldl, List.length_cons, pow_succ]
    have := b.isLt
    have h : b.toNat + 1 ≤ 256 := this
    calc (0 * 256 + b.toNat) * 256 ^ bs.length + beNat bs < (0 * 256 + b.toNat) * 256 ^ bs.length + 256 ^ bs.length := by omega
      _ = (b.toNat + 1) * 256 ^ bs.length := by ring
      _ ≤ 256 * 256 ^ bs.length := Nat.mul_le_mul_right _ h
      _ = _ := by ring

/-- Section 13.1: bytes are the field that their number writes. -/
theorem beBytes_beNat (bs : List Byte) : beBytes bs.length (beNat bs) = bs := by
  induction bs with
  | nil => rfl
  | cons b bs ih =>
    have h : beNat (b :: bs) = b.toNat * 256 ^ bs.length + beNat bs := by
      show List.foldl _ _ (_ :: _) = _
      rw [List.foldl_cons, beNat_foldl]
      ring
    have hp : 0 < 256 ^ bs.length := by positivity
    have hl := beNat_lt bs
    rw [List.length_cons, beBytes, h]
    congr 1
    · rw [Nat.mul_comm, Nat.mul_add_div hp, Nat.div_eq_of_lt hl]
      simp
    · have hm : ∀ n x y, x % 256 ^ n = y % 256 ^ n → beBytes n x = beBytes n y := by
        intro n
        induction n with
        | zero => intros; rfl
        | succ n ihn =>
          intro x y hxy
          rw [beBytes, beBytes]
          rw [pow_succ, Nat.mod_mul, Nat.mod_mul] at hxy
          have hn : 0 < 256 ^ n := by positivity
          have hx := Nat.mod_lt x hn
          have hy := Nat.mod_lt y hn
          have e2 : x / 256 ^ n % 256 = y / 256 ^ n % 256 := by
            have h1 : (x % 256 ^ n + 256 ^ n * (x / 256 ^ n % 256)) / 256 ^ n = x / 256 ^ n % 256 := by
              rw [Nat.add_mul_div_left _ _ hn, Nat.div_eq_of_lt hx, Nat.zero_add]
            have h2 : (y % 256 ^ n + 256 ^ n * (y / 256 ^ n % 256)) / 256 ^ n = y / 256 ^ n % 256 := by
              rw [Nat.add_mul_div_left _ _ hn, Nat.div_eq_of_lt hy, Nat.zero_add]
            rw [← h1, ← h2, hxy]
          have e1 : x % 256 ^ n = y % 256 ^ n := by rw [e2] at hxy; omega
          congr 1
          · exact BitVec.eq_of_toNat_eq (by simp only [BitVec.toNat_ofNat]; exact e2)
          · exact ihn x y e1
      rw [hm bs.length _ (beNat bs) (by rw [Nat.mul_comm, Nat.mul_add_mod]), ih]

/-- R200: one byte more escaped. -/
theorem escapeBytes_cons (b : Byte) (bs : List Byte) : escapeBytes (b :: bs) = (if b = startMarker ∨ b = escapeByte then [escapeByte, b ^^^ 0x40] else [b]) ++ escapeBytes bs := by
  simp [escapeBytes]

/-- R200: what was escaped is read back whole. -/
theorem unescapeBytes_escapeBytes (bs : List Byte) : unescapeBytes (escapeBytes bs) = ⟨bs, false⟩ := by
  induction bs with
  | nil => rfl
  | cons b bs ih =>
    rw [escapeBytes_cons]
    by_cases hb : b = startMarker ∨ b = escapeByte
    · rw [if_pos hb]
      obtain rfl | rfl := hb
      · show unescapeBytes (escapeByte :: 0xE5 :: escapeBytes bs) = _
        rw [unescapeBytes, if_neg (by decide), if_pos rfl]
        simp only
        rw [if_pos (by decide), ih]; rfl
      · show unescapeBytes (escapeByte :: 0xE6 :: escapeBytes bs) = _
        rw [unescapeBytes, if_neg (by decide), if_pos rfl]
        simp only
        rw [if_pos (by decide), ih]; rfl
    · rw [if_neg hb]
      push Not at hb
      show unescapeBytes (b :: escapeBytes bs) = _
      rw [unescapeBytes.eq_def]
      simp only [hb.1, hb.2, if_false, ih]

theorem crc16Bit_lt (c : Nat) (h : c < 65536) : crc16Bit c < 65536 := by
  unfold crc16Bit
  split
  · exact Nat.xor_lt_two_pow (n := 16) (by omega) (by decide)
  · omega

/-- R200: the frame check fits two bytes. -/
theorem crc16Byte_lt (c : Nat) (b : Byte) (h : c < 65536) : crc16Byte c b < 65536 := by
  unfold crc16Byte
  simp only
  have : c ^^^ (b.toNat * 256) < 65536 := Nat.xor_lt_two_pow (n := 16) (by omega) (by have := b.isLt; omega)
  repeat apply crc16Bit_lt
  exact this

theorem forceNat_eq {α : Type} (n : Nat) (k : Nat → α) : forceNat n k = k n := by cases n <;> rfl

/-- R200: the frame check fits two bytes. -/
theorem crc16From_lt (c : Nat) (bs : List Byte) (h : c < 65536) : crc16From c bs < 65536 := by
  induction bs generalizing c with
  | nil => exact h
  | cons b bs ih => rw [crc16From, forceNat_eq]; exact ih _ (crc16Byte_lt c b h)

/-- R200: a frame that was sent is read with its kind, payload and check. -/
theorem frameOf_escapeBytes (kind : Byte) (payload : List Byte) (check : Nat) (hp : payload.length < 65536) (hc : check < 65536) :
   frameOf (escapeBytes (checkedBytes kind payload ++ beBytes 2 check)) = some (kind, payload, check) := by
  unfold frameOf
  rw [unescapeBytes_escapeBytes]
  simp only [checkedBytes, beBytes, List.cons_append, List.nil_append]
  have hlen : (BitVec.ofNat 8 (payload.length / 256 ^ 1)).toNat * 256 + (BitVec.ofNat 8 (payload.length / 256 ^ 0)).toNat = payload.length := by
    simp only [BitVec.toNat_ofNat]; omega
  rw [hlen]
  have : payload.length + 2 ≤ (payload ++ [BitVec.ofNat 8 (check / 256 ^ 1), BitVec.ofNat 8 (check / 256 ^ 0)]).length := by simp
  rw [if_pos this]
  rw [List.take_left' rfl]
  simp only [fieldAt, List.drop_left', Option.some.injEq, Prod.mk.injEq, true_and]
  show beNat [_, _] = _
  rw [show ([BitVec.ofNat 8 (check / 256 ^ 1), BitVec.ofNat 8 (check / 256 ^ 0)] : List Byte) = beBytes 2 check from rfl, beNat_beBytes]
  omega


end Sys2Proof.Machine
end

