-- ==== Sys2Proof/Laws/State.lean ====
section
/-! SUPPORT. The named updates of the state, field by field: what each leaves as it was, and what it writes. -/

namespace Sys2Proof.Machine

variable (s : State)

@[simp] theorem State.modDet_synth (ch : Channel) (f : Detector → Detector) : (s.modDet ch f).synth = s.synth := rfl
@[simp] theorem State.modDet_tt (ch : Channel) (f : Detector → Detector) : (s.modDet ch f).tt = s.tt := rfl
@[simp] theorem State.modDet_rowTT (ch : Channel) (f : Detector → Detector) : (s.modDet ch f).rowTT = s.rowTT := rfl
@[simp] theorem State.modDet_now (ch : Channel) (f : Detector → Detector) : (s.modDet ch f).now = s.now := rfl
@[simp] theorem State.modDet_lanes (ch : Channel) (f : Detector → Detector) : (s.modDet ch f).lanes = s.lanes := rfl
@[simp] theorem State.modDet_pl (ch : Channel) (f : Detector → Detector) : (s.modDet ch f).pl = s.pl := rfl
@[simp] theorem State.modDet_acq (ch : Channel) (f : Detector → Detector) : (s.modDet ch f).acq = s.acq := rfl
@[simp] theorem State.modDet_lastFail (ch : Channel) (f : Detector → Detector) : (s.modDet ch f).lastFail = s.lastFail := rfl
@[simp] theorem State.modDet_nextHit (ch : Channel) (f : Detector → Detector) : (s.modDet ch f).nextHit = s.nextHit := rfl
@[simp] theorem State.modDet_guard (ch : Channel) (f : Detector → Detector) : (s.modDet ch f).guard = s.guard := rfl
@[simp] theorem State.modDet_asm (ch : Channel) (f : Detector → Detector) : (s.modDet ch f).asm = s.asm := rfl
@[simp] theorem State.modDet_hist (ch : Channel) (f : Detector → Detector) : (s.modDet ch f).hist = s.hist := rfl
@[simp] theorem State.modDet_timer (ch : Channel) (f : Detector → Detector) : (s.modDet ch f).timer = s.timer := rfl
@[simp] theorem State.modDet_wave (ch : Channel) (f : Detector → Detector) : (s.modDet ch f).wave = s.wave := rfl
@[simp] theorem State.modDet_rq (ch : Channel) (f : Detector → Detector) : (s.modDet ch f).rq = s.rq := rfl
@[simp] theorem State.modDet_link (ch : Channel) (f : Detector → Detector) : (s.modDet ch f).link = s.link := rfl
@[simp] theorem State.modDet_tables (ch : Channel) (f : Detector → Detector) : (s.modDet ch f).tables = s.tables := rfl
@[simp] theorem State.modDet_crcs (ch : Channel) (f : Detector → Detector) : (s.modDet ch f).crcs = s.crcs := rfl
@[simp] theorem State.modDet_loader (ch : Channel) (f : Detector → Detector) : (s.modDet ch f).loader = s.loader := rfl
@[simp] theorem State.modDet_lock (ch : Channel) (f : Detector → Detector) : (s.modDet ch f).lock = s.lock := rfl
@[simp] theorem State.modDet_cond (ch : Channel) (f : Detector → Detector) : (s.modDet ch f).cond = s.cond := rfl
@[simp] theorem State.modDet_lastReset (ch : Channel) (f : Detector → Detector) : (s.modDet ch f).lastReset = s.lastReset := rfl
@[simp] theorem State.modDet_pending (ch : Channel) (f : Detector → Detector) : (s.modDet ch f).pending = s.pending := rfl

@[simp] theorem State.modLane_synth (ch : Channel) (f : Lane → Lane) : (s.modLane ch f).synth = s.synth := rfl
@[simp] theorem State.modLane_tt (ch : Channel) (f : Lane → Lane) : (s.modLane ch f).tt = s.tt := rfl
@[simp] theorem State.modLane_rowTT (ch : Channel) (f : Lane → Lane) : (s.modLane ch f).rowTT = s.rowTT := rfl
@[simp] theorem State.modLane_now (ch : Channel) (f : Lane → Lane) : (s.modLane ch f).now = s.now := rfl
@[simp] theorem State.modLane_pl (ch : Channel) (f : Lane → Lane) : (s.modLane ch f).pl = s.pl := rfl
@[simp] theorem State.modLane_acq (ch : Channel) (f : Lane → Lane) : (s.modLane ch f).acq = s.acq := rfl
@[simp] theorem State.modLane_lastFail (ch : Channel) (f : Lane → Lane) : (s.modLane ch f).lastFail = s.lastFail := rfl
@[simp] theorem State.modLane_dets (ch : Channel) (f : Lane → Lane) : (s.modLane ch f).dets = s.dets := rfl
@[simp] theorem State.modLane_nextHit (ch : Channel) (f : Lane → Lane) : (s.modLane ch f).nextHit = s.nextHit := rfl
@[simp] theorem State.modLane_guard (ch : Channel) (f : Lane → Lane) : (s.modLane ch f).guard = s.guard := rfl
@[simp] theorem State.modLane_asm (ch : Channel) (f : Lane → Lane) : (s.modLane ch f).asm = s.asm := rfl
@[simp] theorem State.modLane_hist (ch : Channel) (f : Lane → Lane) : (s.modLane ch f).hist = s.hist := rfl
@[simp] theorem State.modLane_timer (ch : Channel) (f : Lane → Lane) : (s.modLane ch f).timer = s.timer := rfl
@[simp] theorem State.modLane_wave (ch : Channel) (f : Lane → Lane) : (s.modLane ch f).wave = s.wave := rfl
@[simp] theorem State.modLane_rq (ch : Channel) (f : Lane → Lane) : (s.modLane ch f).rq = s.rq := rfl
@[simp] theorem State.modLane_link (ch : Channel) (f : Lane → Lane) : (s.modLane ch f).link = s.link := rfl
@[simp] theorem State.modLane_tables (ch : Channel) (f : Lane → Lane) : (s.modLane ch f).tables = s.tables := rfl
@[simp] theorem State.modLane_crcs (ch : Channel) (f : Lane → Lane) : (s.modLane ch f).crcs = s.crcs := rfl
@[simp] theorem State.modLane_loader (ch : Channel) (f : Lane → Lane) : (s.modLane ch f).loader = s.loader := rfl
@[simp] theorem State.modLane_lock (ch : Channel) (f : Lane → Lane) : (s.modLane ch f).lock = s.lock := rfl
@[simp] theorem State.modLane_cond (ch : Channel) (f : Lane → Lane) : (s.modLane ch f).cond = s.cond := rfl
@[simp] theorem State.modLane_lastReset (ch : Channel) (f : Lane → Lane) : (s.modLane ch f).lastReset = s.lastReset := rfl
@[simp] theorem State.modLane_pending (ch : Channel) (f : Lane → Lane) : (s.modLane ch f).pending = s.pending := rfl

@[simp] theorem State.modCounts_synth (ch : Channel) (f : ChannelCounts → ChannelCounts) : (s.modCounts ch f).synth = s.synth := rfl
@[simp] theorem State.modCounts_tt (ch : Channel) (f : ChannelCounts → ChannelCounts) : (s.modCounts ch f).tt = s.tt := rfl
@[simp] theorem State.modCounts_rowTT (ch : Channel) (f : ChannelCounts → ChannelCounts) : (s.modCounts ch f).rowTT = s.rowTT := rfl
@[simp] theorem State.modCounts_now (ch : Channel) (f : ChannelCounts → ChannelCounts) : (s.modCounts ch f).now = s.now := rfl
@[simp] theorem State.modCounts_lanes (ch : Channel) (f : ChannelCounts → ChannelCounts) : (s.modCounts ch f).lanes = s.lanes := rfl
@[simp] theorem State.modCounts_pl (ch : Channel) (f : ChannelCounts → ChannelCounts) : (s.modCounts ch f).pl = s.pl := rfl
@[simp] theorem State.modCounts_acq (ch : Channel) (f : ChannelCounts → ChannelCounts) : (s.modCounts ch f).acq = s.acq := rfl
@[simp] theorem State.modCounts_lastFail (ch : Channel) (f : ChannelCounts → ChannelCounts) : (s.modCounts ch f).lastFail = s.lastFail := rfl
@[simp] theorem State.modCounts_dets (ch : Channel) (f : ChannelCounts → ChannelCounts) : (s.modCounts ch f).dets = s.dets := rfl
@[simp] theorem State.modCounts_nextHit (ch : Channel) (f : ChannelCounts → ChannelCounts) : (s.modCounts ch f).nextHit = s.nextHit := rfl
@[simp] theorem State.modCounts_guard (ch : Channel) (f : ChannelCounts → ChannelCounts) : (s.modCounts ch f).guard = s.guard := rfl
@[simp] theorem State.modCounts_asm (ch : Channel) (f : ChannelCounts → ChannelCounts) : (s.modCounts ch f).asm = s.asm := rfl
@[simp] theorem State.modCounts_hist (ch : Channel) (f : ChannelCounts → ChannelCounts) : (s.modCounts ch f).hist = s.hist := rfl
@[simp] theorem State.modCounts_timer (ch : Channel) (f : ChannelCounts → ChannelCounts) : (s.modCounts ch f).timer = s.timer := rfl
@[simp] theorem State.modCounts_wave (ch : Channel) (f : ChannelCounts → ChannelCounts) : (s.modCounts ch f).wave = s.wave := rfl
@[simp] theorem State.modCounts_link (ch : Channel) (f : ChannelCounts → ChannelCounts) : (s.modCounts ch f).link = s.link := rfl
@[simp] theorem State.modCounts_tables (ch : Channel) (f : ChannelCounts → ChannelCounts) : (s.modCounts ch f).tables = s.tables := rfl
@[simp] theorem State.modCounts_crcs (ch : Channel) (f : ChannelCounts → ChannelCounts) : (s.modCounts ch f).crcs = s.crcs := rfl
@[simp] theorem State.modCounts_loader (ch : Channel) (f : ChannelCounts → ChannelCounts) : (s.modCounts ch f).loader = s.loader := rfl
@[simp] theorem State.modCounts_lock (ch : Channel) (f : ChannelCounts → ChannelCounts) : (s.modCounts ch f).lock = s.lock := rfl
@[simp] theorem State.modCounts_cond (ch : Channel) (f : ChannelCounts → ChannelCounts) : (s.modCounts ch f).cond = s.cond := rfl
@[simp] theorem State.modCounts_lastReset (ch : Channel) (f : ChannelCounts → ChannelCounts) : (s.modCounts ch f).lastReset = s.lastReset := rfl
@[simp] theorem State.modCounts_pending (ch : Channel) (f : ChannelCounts → ChannelCounts) : (s.modCounts ch f).pending = s.pending := rfl

@[simp] theorem State.modFigures_synth (ch : Channel) (f : IntervalFigures → IntervalFigures) : (s.modFigures ch f).synth = s.synth := rfl
@[simp] theorem State.modFigures_tt (ch : Channel) (f : IntervalFigures → IntervalFigures) : (s.modFigures ch f).tt = s.tt := rfl
@[simp] theorem State.modFigures_rowTT (ch : Channel) (f : IntervalFigures → IntervalFigures) : (s.modFigures ch f).rowTT = s.rowTT := rfl
@[simp] theorem State.modFigures_now (ch : Channel) (f : IntervalFigures → IntervalFigures) : (s.modFigures ch f).now = s.now := rfl
@[simp] theorem State.modFigures_lanes (ch : Channel) (f : IntervalFigures → IntervalFigures) : (s.modFigures ch f).lanes = s.lanes := rfl
@[simp] theorem State.modFigures_pl (ch : Channel) (f : IntervalFigures → IntervalFigures) : (s.modFigures ch f).pl = s.pl := rfl
@[simp] theorem State.modFigures_acq (ch : Channel) (f : IntervalFigures → IntervalFigures) : (s.modFigures ch f).acq = s.acq := rfl
@[simp] theorem State.modFigures_lastFail (ch : Channel) (f : IntervalFigures → IntervalFigures) : (s.modFigures ch f).lastFail = s.lastFail := rfl
@[simp] theorem State.modFigures_dets (ch : Channel) (f : IntervalFigures → IntervalFigures) : (s.modFigures ch f).dets = s.dets := rfl
@[simp] theorem State.modFigures_nextHit (ch : Channel) (f : IntervalFigures → IntervalFigures) : (s.modFigures ch f).nextHit = s.nextHit := rfl
@[simp] theorem State.modFigures_guard (ch : Channel) (f : IntervalFigures → IntervalFigures) : (s.modFigures ch f).guard = s.guard := rfl
@[simp] theorem State.modFigures_asm (ch : Channel) (f : IntervalFigures → IntervalFigures) : (s.modFigures ch f).asm = s.asm := rfl
@[simp] theorem State.modFigures_hist (ch : Channel) (f : IntervalFigures → IntervalFigures) : (s.modFigures ch f).hist = s.hist := rfl
@[simp] theorem State.modFigures_wave (ch : Channel) (f : IntervalFigures → IntervalFigures) : (s.modFigures ch f).wave = s.wave := rfl
@[simp] theorem State.modFigures_rq (ch : Channel) (f : IntervalFigures → IntervalFigures) : (s.modFigures ch f).rq = s.rq := rfl
@[simp] theorem State.modFigures_link (ch : Channel) (f : IntervalFigures → IntervalFigures) : (s.modFigures ch f).link = s.link := rfl
@[simp] theorem State.modFigures_tables (ch : Channel) (f : IntervalFigures → IntervalFigures) : (s.modFigures ch f).tables = s.tables := rfl
@[simp] theorem State.modFigures_crcs (ch : Channel) (f : IntervalFigures → IntervalFigures) : (s.modFigures ch f).crcs = s.crcs := rfl
@[simp] theorem State.modFigures_loader (ch : Channel) (f : IntervalFigures → IntervalFigures) : (s.modFigures ch f).loader = s.loader := rfl
@[simp] theorem State.modFigures_lock (ch : Channel) (f : IntervalFigures → IntervalFigures) : (s.modFigures ch f).lock = s.lock := rfl
@[simp] theorem State.modFigures_cond (ch : Channel) (f : IntervalFigures → IntervalFigures) : (s.modFigures ch f).cond = s.cond := rfl
@[simp] theorem State.modFigures_lastReset (ch : Channel) (f : IntervalFigures → IntervalFigures) : (s.modFigures ch f).lastReset = s.lastReset := rfl
@[simp] theorem State.modFigures_pending (ch : Channel) (f : IntervalFigures → IntervalFigures) : (s.modFigures ch f).pending = s.pending := rfl

@[simp] theorem State.modAsm_synth (f : Assembler → Assembler) : (s.modAsm f).synth = s.synth := rfl
@[simp] theorem State.modAsm_tt (f : Assembler → Assembler) : (s.modAsm f).tt = s.tt := rfl
@[simp] theorem State.modAsm_rowTT (f : Assembler → Assembler) : (s.modAsm f).rowTT = s.rowTT := rfl
@[simp] theorem State.modAsm_now (f : Assembler → Assembler) : (s.modAsm f).now = s.now := rfl
@[simp] theorem State.modAsm_lanes (f : Assembler → Assembler) : (s.modAsm f).lanes = s.lanes := rfl
@[simp] theorem State.modAsm_pl (f : Assembler → Assembler) : (s.modAsm f).pl = s.pl := rfl
@[simp] theorem State.modAsm_acq (f : Assembler → Assembler) : (s.modAsm f).acq = s.acq := rfl
@[simp] theorem State.modAsm_lastFail (f : Assembler → Assembler) : (s.modAsm f).lastFail = s.lastFail := rfl
@[simp] theorem State.modAsm_dets (f : Assembler → Assembler) : (s.modAsm f).dets = s.dets := rfl
@[simp] theorem State.modAsm_nextHit (f : Assembler → Assembler) : (s.modAsm f).nextHit = s.nextHit := rfl
@[simp] theorem State.modAsm_guard (f : Assembler → Assembler) : (s.modAsm f).guard = s.guard := rfl
@[simp] theorem State.modAsm_hist (f : Assembler → Assembler) : (s.modAsm f).hist = s.hist := rfl
@[simp] theorem State.modAsm_timer (f : Assembler → Assembler) : (s.modAsm f).timer = s.timer := rfl
@[simp] theorem State.modAsm_wave (f : Assembler → Assembler) : (s.modAsm f).wave = s.wave := rfl
@[simp] theorem State.modAsm_rq (f : Assembler → Assembler) : (s.modAsm f).rq = s.rq := rfl
@[simp] theorem State.modAsm_link (f : Assembler → Assembler) : (s.modAsm f).link = s.link := rfl
@[simp] theorem State.modAsm_tables (f : Assembler → Assembler) : (s.modAsm f).tables = s.tables := rfl
@[simp] theorem State.modAsm_crcs (f : Assembler → Assembler) : (s.modAsm f).crcs = s.crcs := rfl
@[simp] theorem State.modAsm_loader (f : Assembler → Assembler) : (s.modAsm f).loader = s.loader := rfl
@[simp] theorem State.modAsm_lock (f : Assembler → Assembler) : (s.modAsm f).lock = s.lock := rfl
@[simp] theorem State.modAsm_cond (f : Assembler → Assembler) : (s.modAsm f).cond = s.cond := rfl
@[simp] theorem State.modAsm_lastReset (f : Assembler → Assembler) : (s.modAsm f).lastReset = s.lastReset := rfl
@[simp] theorem State.modAsm_pending (f : Assembler → Assembler) : (s.modAsm f).pending = s.pending := rfl

@[simp] theorem State.modWave_synth (f : WaveStore → WaveStore) : (s.modWave f).synth = s.synth := rfl
@[simp] theorem State.modWave_tt (f : WaveStore → WaveStore) : (s.modWave f).tt = s.tt := rfl
@[simp] theorem State.modWave_rowTT (f : WaveStore → WaveStore) : (s.modWave f).rowTT = s.rowTT := rfl
@[simp] theorem State.modWave_now (f : WaveStore → WaveStore) : (s.modWave f).now = s.now := rfl
@[simp] theorem State.modWave_lanes (f : WaveStore → WaveStore) : (s.modWave f).lanes = s.lanes := rfl
@[simp] theorem State.modWave_pl (f : WaveStore → WaveStore) : (s.modWave f).pl = s.pl := rfl
@[simp] theorem State.modWave_acq (f : WaveStore → WaveStore) : (s.modWave f).acq = s.acq := rfl
@[simp] theorem State.modWave_lastFail (f : WaveStore → WaveStore) : (s.modWave f).lastFail = s.lastFail := rfl
@[simp] theorem State.modWave_dets (f : WaveStore → WaveStore) : (s.modWave f).dets = s.dets := rfl
@[simp] theorem State.modWave_nextHit (f : WaveStore → WaveStore) : (s.modWave f).nextHit = s.nextHit := rfl
@[simp] theorem State.modWave_guard (f : WaveStore → WaveStore) : (s.modWave f).guard = s.guard := rfl
@[simp] theorem State.modWave_asm (f : WaveStore → WaveStore) : (s.modWave f).asm = s.asm := rfl
@[simp] theorem State.modWave_hist (f : WaveStore → WaveStore) : (s.modWave f).hist = s.hist := rfl
@[simp] theorem State.modWave_timer (f : WaveStore → WaveStore) : (s.modWave f).timer = s.timer := rfl
@[simp] theorem State.modWave_rq (f : WaveStore → WaveStore) : (s.modWave f).rq = s.rq := rfl
@[simp] theorem State.modWave_link (f : WaveStore → WaveStore) : (s.modWave f).link = s.link := rfl
@[simp] theorem State.modWave_tables (f : WaveStore → WaveStore) : (s.modWave f).tables = s.tables := rfl
@[simp] theorem State.modWave_crcs (f : WaveStore → WaveStore) : (s.modWave f).crcs = s.crcs := rfl
@[simp] theorem State.modWave_loader (f : WaveStore → WaveStore) : (s.modWave f).loader = s.loader := rfl
@[simp] theorem State.modWave_lock (f : WaveStore → WaveStore) : (s.modWave f).lock = s.lock := rfl
@[simp] theorem State.modWave_cond (f : WaveStore → WaveStore) : (s.modWave f).cond = s.cond := rfl
@[simp] theorem State.modWave_lastReset (f : WaveStore → WaveStore) : (s.modWave f).lastReset = s.lastReset := rfl
@[simp] theorem State.modWave_pending (f : WaveStore → WaveStore) : (s.modWave f).pending = s.pending := rfl

@[simp] theorem State.modOpen_synth (ch : Channel) (f : OpenHit → OpenHit) : (s.modOpen ch f).synth = s.synth := rfl
@[simp] theorem State.modOpen_tt (ch : Channel) (f : OpenHit → OpenHit) : (s.modOpen ch f).tt = s.tt := rfl
@[simp] theorem State.modOpen_rowTT (ch : Channel) (f : OpenHit → OpenHit) : (s.modOpen ch f).rowTT = s.rowTT := rfl
@[simp] theorem State.modOpen_now (ch : Channel) (f : OpenHit → OpenHit) : (s.modOpen ch f).now = s.now := rfl
@[simp] theorem State.modOpen_lanes (ch : Channel) (f : OpenHit → OpenHit) : (s.modOpen ch f).lanes = s.lanes := rfl
@[simp] theorem State.modOpen_pl (ch : Channel) (f : OpenHit → OpenHit) : (s.modOpen ch f).pl = s.pl := rfl
@[simp] theorem State.modOpen_acq (ch : Channel) (f : OpenHit → OpenHit) : (s.modOpen ch f).acq = s.acq := rfl
@[simp] theorem State.modOpen_lastFail (ch : Channel) (f : OpenHit → OpenHit) : (s.modOpen ch f).lastFail = s.lastFail := rfl
@[simp] theorem State.modOpen_nextHit (ch : Channel) (f : OpenHit → OpenHit) : (s.modOpen ch f).nextHit = s.nextHit := rfl
@[simp] theorem State.modOpen_guard (ch : Channel) (f : OpenHit → OpenHit) : (s.modOpen ch f).guard = s.guard := rfl
@[simp] theorem State.modOpen_asm (ch : Channel) (f : OpenHit → OpenHit) : (s.modOpen ch f).asm = s.asm := rfl
@[simp] theorem State.modOpen_hist (ch : Channel) (f : OpenHit → OpenHit) : (s.modOpen ch f).hist = s.hist := rfl
@[simp] theorem State.modOpen_timer (ch : Channel) (f : OpenHit → OpenHit) : (s.modOpen ch f).timer = s.timer := rfl
@[simp] theorem State.modOpen_wave (ch : Channel) (f : OpenHit → OpenHit) : (s.modOpen ch f).wave = s.wave := rfl
@[simp] theorem State.modOpen_rq (ch : Channel) (f : OpenHit → OpenHit) : (s.modOpen ch f).rq = s.rq := rfl
@[simp] theorem State.modOpen_link (ch : Channel) (f : OpenHit → OpenHit) : (s.modOpen ch f).link = s.link := rfl
@[simp] theorem State.modOpen_tables (ch : Channel) (f : OpenHit → OpenHit) : (s.modOpen ch f).tables = s.tables := rfl
@[simp] theorem State.modOpen_crcs (ch : Channel) (f : OpenHit → OpenHit) : (s.modOpen ch f).crcs = s.crcs := rfl
@[simp] theorem State.modOpen_loader (ch : Channel) (f : OpenHit → OpenHit) : (s.modOpen ch f).loader = s.loader := rfl
@[simp] theorem State.modOpen_lock (ch : Channel) (f : OpenHit → OpenHit) : (s.modOpen ch f).lock = s.lock := rfl
@[simp] theorem State.modOpen_cond (ch : Channel) (f : OpenHit → OpenHit) : (s.modOpen ch f).cond = s.cond := rfl
@[simp] theorem State.modOpen_lastReset (ch : Channel) (f : OpenHit → OpenHit) : (s.modOpen ch f).lastReset = s.lastReset := rfl
@[simp] theorem State.modOpen_pending (ch : Channel) (f : OpenHit → OpenHit) : (s.modOpen ch f).pending = s.pending := rfl

@[simp] theorem State.putContext_synth (k : Fin 4) (c : Option Context) : (s.putContext k c).synth = s.synth := rfl
@[simp] theorem State.putContext_tt (k : Fin 4) (c : Option Context) : (s.putContext k c).tt = s.tt := rfl
@[simp] theorem State.putContext_rowTT (k : Fin 4) (c : Option Context) : (s.putContext k c).rowTT = s.rowTT := rfl
@[simp] theorem State.putContext_now (k : Fin 4) (c : Option Context) : (s.putContext k c).now = s.now := rfl
@[simp] theorem State.putContext_lanes (k : Fin 4) (c : Option Context) : (s.putContext k c).lanes = s.lanes := rfl
@[simp] theorem State.putContext_pl (k : Fin 4) (c : Option Context) : (s.putContext k c).pl = s.pl := rfl
@[simp] theorem State.putContext_acq (k : Fin 4) (c : Option Context) : (s.putContext k c).acq = s.acq := rfl
@[simp] theorem State.putContext_lastFail (k : Fin 4) (c : Option Context) : (s.putContext k c).lastFail = s.lastFail := rfl
@[simp] theorem State.putContext_dets (k : Fin 4) (c : Option Context) : (s.putContext k c).dets = s.dets := rfl
@[simp] theorem State.putContext_nextHit (k : Fin 4) (c : Option Context) : (s.putContext k c).nextHit = s.nextHit := rfl
@[simp] theorem State.putContext_guard (k : Fin 4) (c : Option Context) : (s.putContext k c).guard = s.guard := rfl
@[simp] theorem State.putContext_hist (k : Fin 4) (c : Option Context) : (s.putContext k c).hist = s.hist := rfl
@[simp] theorem State.putContext_timer (k : Fin 4) (c : Option Context) : (s.putContext k c).timer = s.timer := rfl
@[simp] theorem State.putContext_wave (k : Fin 4) (c : Option Context) : (s.putContext k c).wave = s.wave := rfl
@[simp] theorem State.putContext_rq (k : Fin 4) (c : Option Context) : (s.putContext k c).rq = s.rq := rfl
@[simp] theorem State.putContext_link (k : Fin 4) (c : Option Context) : (s.putContext k c).link = s.link := rfl
@[simp] theorem State.putContext_tables (k : Fin 4) (c : Option Context) : (s.putContext k c).tables = s.tables := rfl
@[simp] theorem State.putContext_crcs (k : Fin 4) (c : Option Context) : (s.putContext k c).crcs = s.crcs := rfl
@[simp] theorem State.putContext_loader (k : Fin 4) (c : Option Context) : (s.putContext k c).loader = s.loader := rfl
@[simp] theorem State.putContext_lock (k : Fin 4) (c : Option Context) : (s.putContext k c).lock = s.lock := rfl
@[simp] theorem State.putContext_cond (k : Fin 4) (c : Option Context) : (s.putContext k c).cond = s.cond := rfl
@[simp] theorem State.putContext_lastReset (k : Fin 4) (c : Option Context) : (s.putContext k c).lastReset = s.lastReset := rfl
@[simp] theorem State.putContext_pending (k : Fin 4) (c : Option Context) : (s.putContext k c).pending = s.pending := rfl

@[simp] theorem State.modDet_dets (ch : Channel) (f : Detector → Detector) :
    (s.modDet ch f).dets = upd s.dets ch f := rfl
@[simp] theorem State.modLane_lanes (ch : Channel) (f : Lane → Lane) : (s.modLane ch f).lanes = upd s.lanes ch f := rfl
@[simp] theorem State.modCounts_rq (ch : Channel) (f : ChannelCounts → ChannelCounts) :
    (s.modCounts ch f).rq = { s.rq with counts := upd s.rq.counts ch f } := rfl
@[simp] theorem State.modFigures_timer (ch : Channel) (f : IntervalFigures → IntervalFigures) :
    (s.modFigures ch f).timer = { s.timer with figures := upd s.timer.figures ch f } := rfl
@[simp] theorem State.modAsm_asm (f : Assembler → Assembler) : (s.modAsm f).asm = f s.asm := rfl
@[simp] theorem State.modWave_wave (f : WaveStore → WaveStore) : (s.modWave f).wave = f s.wave := rfl
@[simp] theorem State.modOpen_dets (ch : Channel) (f : OpenHit → OpenHit) :
    (s.modOpen ch f).dets = upd s.dets ch (Detector.modOpen f) := rfl
@[simp] theorem State.putContext_asm (k : Fin 4) (c : Option Context) :
    (s.putContext k c).asm = { s.asm with contexts := upd s.asm.contexts k fun _ => c } := rfl

/-- Reading any entry of a table of which one entry was changed. -/
theorem upd_getElem {α : Type} {n : Nat} (v : Vector α n) (i : Fin n) (f : α → α) (j : Nat) (h : j < n) :
    (upd v i f)[j] = if i.val = j then f v[j] else v[j] := by
  unfold upd
  rw [Vector.getElem_set]
  split
  · next e => subst e; rfl
  · rfl

/-- Reading any entry, with the index as the model writes it. -/
theorem upd_get {α : Type} {n : Nat} (v : Vector α n) (i j : Fin n) (f : α → α) :
    (upd v i f)[j] = if i = j then f v[j] else v[j] := by
  have h := upd_getElem v i f j.val j.isLt
  simp only [Fin.ext_iff]
  exact h

/-- Reading the entry that was changed. -/
theorem upd_same {α : Type} {n : Nat} (v : Vector α n) (i : Fin n) (f : α → α) : (upd v i f)[i] = f v[i] := by
  rw [upd_get, if_pos rfl]

/-- Reading another entry. -/
theorem upd_other {α : Type} {n : Nat} (v : Vector α n) (i j : Fin n) (f : α → α) (h : i ≠ j) : (upd v i f)[j] = v[j] := by
  rw [upd_get, if_neg h]

/-- Reading an entry of a table given entry by entry. -/
theorem tabulate_get {α : Type} (f : Fin 16 → α) (i : Fin 16) : (tabulate f)[i] = f i := by
  fin_cases i <;> rfl

/-- A table whose entries are those of another, one by one, is that table. -/
theorem table_ext {α : Type} {n : Nat} {v w : Vector α n} (h : ∀ i : Fin n, v[i] = w[i]) : v = w :=
  Vector.ext fun i hi => h ⟨i, hi⟩

end Sys2Proof.Machine
end

