-- ==== Sys2Proof/Laws/Channels.lean ====
section
/-! SUPPORT. What a loop over the sixteen channels does when each turn changes only its own channel's detector and lane. -/

namespace Sys2Proof.Machine

/-- A state with other detectors and lanes. -/
def State.withChannels (s : State) (dets : Vector Detector 16) (lanes : Vector Lane 16) : State :=
  { s with dets := dets, lanes := lanes }

/-- One turn of such a loop: the detector and the lane of its channel are changed by functions of that channel's own detector and
lane. -/
structure OwnChannel (turn : Channel → State → State) (f : Channel → Detector → Lane → Detector)
    (g : Channel → Detector → Lane → Lane) (s : State) : Prop where
  turn : ∀ (ch : Channel) (dets : Vector Detector 16) (lanes : Vector Lane 16),
    turn ch (s.withChannels dets lanes) =
      s.withChannels (upd dets ch fun d => f ch d lanes[ch]) (upd lanes ch fun l => g ch dets[ch] l)

/-- The loop over a list of different channels changes exactly their entries. -/
theorem foldl_ownChannel {turn : Channel → State → State} {f : Channel → Detector → Lane → Detector}
    {g : Channel → Detector → Lane → Lane} {s : State} (h : OwnChannel turn f g s) (chs : List Channel)
    (distinct : chs.Nodup) (dets : Vector Detector 16) (lanes : Vector Lane 16) :
    chs.foldl (fun s ch => turn ch s) (s.withChannels dets lanes) =
      s.withChannels (tabulate fun ch => if ch ∈ chs then f ch dets[ch] lanes[ch] else dets[ch])
        (tabulate fun ch => if ch ∈ chs then g ch dets[ch] lanes[ch] else lanes[ch]) := by
  induction chs generalizing dets lanes with
  | nil =>
    simp only [List.foldl_nil, List.not_mem_nil, if_false]
    congr 1 <;> exact (table_ext fun i => by rw [tabulate_get])
  | cons c cs ih =>
    obtain ⟨hc, hcs⟩ := List.nodup_cons.mp distinct
    rw [List.foldl_cons, h.turn, ih hcs]
    congr 1 <;>
    · refine table_ext fun i => ?_
      simp only [tabulate_get, List.mem_cons]
      by_cases hi : i = c
      · subst hi; simp only [hc, if_false, true_or, if_true, upd_same]
      · simp only [hi, false_or, upd_other _ _ _ _ (Ne.symm hi)]

/-- The sixteen channels are different. -/
theorem channels_nodup : channels.Nodup := by decide

/-- Every channel is one of the sixteen. -/
theorem mem_channels (ch : Channel) : ch ∈ channels := by revert ch; decide

/-- The loop over all channels changes every entry. -/
theorem channels_foldl {turn : Channel → State → State} {f : Channel → Detector → Lane → Detector}
    {g : Channel → Detector → Lane → Lane} {s : State} (h : OwnChannel turn f g s) :
    channels.foldl (fun s ch => turn ch s) s =
      s.withChannels (tabulate fun ch => f ch s.dets[ch] s.lanes[ch]) (tabulate fun ch => g ch s.dets[ch] s.lanes[ch]) := by
  have := foldl_ownChannel h channels channels_nodup s.dets s.lanes
  simp only [mem_channels, if_true] at this
  exact this

end Sys2Proof.Machine
end

