-- ==== Sys2Proof/Laws/Conditions.lean ====
section
/-! SUPPORT. What a setting of a factor and an evaluation of the shed level can do. -/

namespace Sys2Proof.Machine

/-- The state with other latched factors and other waiting notices: all that a setting can write. -/
def State.withSetting (s : State) (fs : FactorBits) (ns : List Notice) : State :=
  { s with cond := { s.cond with factors := fs }, rq := { s.rq with notices := ns } }

/-- R194, R197, R198: a setting leaves a set entry alone; otherwise it latches the entry, and the Notice Queue stays or takes one
notice of the factor, if it has room. -/
theorem setFactor_spec (f : Factor) (index : Nat) (reached : Option Nat) (s : State) :
    (s.cond.factors.get f = true ∧ setFactor f index reached s = s)
      ∨ (s.cond.factors.get f = false ∧
          ∃ ns, setFactor f index reached s = s.withSetting (s.cond.factors.on f) ns ∧
            (ns = s.rq.notices
              ∨ (s.rq.notices.length < noticeCapacity ∧ s.cond.notifies f = true ∧
                  ns = s.rq.notices ++ [{ factor := f, index := index, state := reached, time := s.tt }]))) := by
  unfold setFactor
  cases h : s.cond.factors.get f with
  | true => exact .inl ⟨rfl, if_pos rfl⟩
  | false =>
    refine .inr ⟨rfl, ?_⟩
    have hn : (latchFactor f s).cond.notifies f = s.cond.notifies f := rfl
    simp only [Bool.false_eq_true, if_false, hn]
    cases hc : s.cond.notifies f with
    | false => exact ⟨s.rq.notices, rfl, .inl rfl⟩
    | true =>
      simp only [if_true, offerNotice]
      split
      · exact ⟨s.rq.notices, rfl, .inl rfl⟩
      · split
        · exact ⟨s.rq.notices, rfl, .inl rfl⟩
        · next hroom => exact ⟨_, rfl, .inr ⟨Nat.lt_of_not_le hroom, trivial, rfl⟩⟩

/-- A setting writes the latched factors and the Notice Queue and nothing else. -/
theorem setFactor_frame (f : Factor) (index : Nat) (reached : Option Nat) (s : State) :
    ∃ fs ns, setFactor f index reached s = s.withSetting fs ns ∧
      (s.rq.notices.length ≤ noticeCapacity → ns.length ≤ noticeCapacity) := by
  obtain ⟨-, h⟩ | ⟨-, ns, h, hns⟩ := setFactor_spec f index reached s
  · exact ⟨s.cond.factors, s.rq.notices, h, id⟩
  · refine ⟨_, ns, h, fun hs => ?_⟩
    obtain rfl | ⟨hroom, -, rfl⟩ := hns
    · exact hs
    · simpa using hroom

/-- The state with another shed level and what a setting can write: all that an evaluation can write. -/
def State.withShed (s : State) (level : Fin 4) (fs : FactorBits) (ns : List Notice) : State :=
  { s with cond := { s.cond with factors := fs }, rq := { s.rq with shed := level, notices := ns } }

/-- R160, R161: an evaluation moves the shed level by one step of R160 and writes nothing else but the setting of a move. -/
theorem evalShed_frame (s : State) :
    ∃ fs ns, evalShed s = s.withShed (shedStep s.rq.shed s.rq.hits.length s.wave.freeBlocks) fs ns ∧
      (s.rq.notices.length ≤ noticeCapacity → ns.length ≤ noticeCapacity) := by
  unfold evalShed
  simp only
  split
  · next h => exact ⟨s.cond.factors, s.rq.notices, by rw [h]; rfl, id⟩
  · obtain ⟨fs, ns, h, hn⟩ := setFactor_frame .shedChanged
      (shedStep s.rq.shed s.rq.hits.length s.wave.freeBlocks).val none
      { s with rq := { s.rq with shed := shedStep s.rq.shed s.rq.hits.length s.wave.freeBlocks } }
    exact ⟨fs, ns, h, hn⟩

/-- R160: the level after an evaluation follows the occupancy, which has grown by at most one since the level before did. -/
theorem shedStep_follows (level : Fin 4) (m n f : Nat) (hn : n ≤ m + 1) (hc : n ≤ hitCapacity)
    (h1 : 128 ≤ m → 1 ≤ level.val) (h2 : 192 ≤ m → 2 ≤ level.val) (h3 : m = hitCapacity → level.val = 3) :
    (128 ≤ n → 1 ≤ (shedStep level n f).val) ∧ (192 ≤ n → 2 ≤ (shedStep level n f).val) ∧
      (n = hitCapacity → (shedStep level n f).val = 3) := by
  unfold hitCapacity at *
  match level, h1, h2, h3 with
  | 0, h1, h2, h3 => simp only [shedStep]; split <;> simp <;> simp at h1 h2 h3 <;> omega
  | 1, h1, h2, h3 =>
    simp only [shedStep]; split
    · simp at h2 ⊢; omega
    · split <;> simp <;> simp at h2 <;> omega
  | 2, h1, h2, h3 =>
    simp only [shedStep]; split
    · simp
    · split <;> simp <;> omega
  | 3, h1, h2, h3 => simp only [shedStep]; split <;> simp; omega

/-- R160: an evaluation in a state whose occupancy has just changed, grown by at most one, leaves the level following it. -/
theorem evalShed_follows (s : State) (m : Nat) (hn : s.rq.hits.length ≤ m + 1) (hc : s.rq.hits.length ≤ hitCapacity)
    (h1 : 128 ≤ m → 1 ≤ s.rq.shed.val) (h2 : 192 ≤ m → 2 ≤ s.rq.shed.val) (h3 : m = hitCapacity → s.rq.shed.val = 3) :
    (evalShed s).ShedFollows := by
  obtain ⟨fs, ns, h, -⟩ := evalShed_frame s
  have := shedStep_follows s.rq.shed m s.rq.hits.length s.wave.freeBlocks hn hc h1 h2 h3
  rw [h]
  exact ⟨hc, this.1, this.2.1, this.2.2⟩

end Sys2Proof.Machine
end

