-- ==== Sys2Proof/Laws/Forced.lean ====
section
/-! SUPPORT. What a closure of an entry to OFF hands on does not depend on the detectors, the lanes or the acquisition state. -/

namespace Sys2Proof.Machine

/-- A state with other detectors, lanes and acquisition state. -/
def State.reskin (d : Vector Detector 16) (l : Vector Lane 16) (a : Acq) (s : State) : State := { s with dets := d, lanes := l, acq := a }

/-- An operation of the queues, the Waveform Store and the assembler that neither reads nor writes detectors, lanes and acquisition
state. -/
def SkinFree (f : State → State) : Prop := ∀ d l a s, f (s.reskin d l a) = (f s).reskin d l a

theorem SkinFree.comp {f g : State → State} (hf : SkinFree f) (hg : SkinFree g) : SkinFree fun s => f (g s) :=
  fun d l a s => by show f (g _) = _; rw [hg, hf]

/-- Such an operation leaves detectors, lanes and acquisition state as they are. -/
theorem SkinFree.keeps {f : State → State} (h : SkinFree f) (s : State) :
    (f s).dets = s.dets ∧ (f s).lanes = s.lanes ∧ (f s).acq = s.acq := by
  have e : f s = (f s).reskin s.dets s.lanes s.acq := h s.dets s.lanes s.acq s
  exact ⟨by rw [e]; rfl, by rw [e]; rfl, by rw [e]; rfl⟩

variable (ch : Channel) (hitId : Counter) (c : ClosedHit) (t : EventTag)

theorem skinFree_setFactor (f : Factor) (index : Nat) (reached : Option Nat) : SkinFree (setFactor f index reached) := by
  intro d l a s
  simp only [setFactor, offerNotice, apply_ite (State.reskin d l a)]
  rfl

theorem skinFree_evalShed : SkinFree evalShed := by
  intro d l a s
  simp only [evalShed]
  rw [show (s.reskin d l a).rq = s.rq from rfl, show (s.reskin d l a).wave = s.wave from rfl]
  split
  · rfl
  · exact skinFree_setFactor _ _ _ d l a { s with rq := { s.rq with shed := shedStep s.rq.shed s.rq.hits.length s.wave.freeBlocks } }

theorem skinFree_modWave (f : WaveStore → WaveStore) : SkinFree fun s => s.modWave f := fun _ _ _ _ => rfl

theorem skinFree_modCounts (f : ChannelCounts → ChannelCounts) : SkinFree fun s => s.modCounts ch f := fun _ _ _ _ => rfl

theorem skinFree_freeSegment (i : Fin 64) : SkinFree (freeSegment i) := skinFree_evalShed.comp (skinFree_modWave _)

theorem skinFree_freeSegmentOf : SkinFree (freeSegmentOf ch hitId) := by
  intro d l a s
  simp only [freeSegmentOf]
  rw [show (s.reskin d l a).wave = s.wave from rfl]
  split
  · rfl
  · exact skinFree_freeSegment _ d l a s

theorem skinFree_segmentFillEnd : SkinFree (segmentFillEnd ch hitId) := by
  intro d l a s
  simp only [segmentFillEnd]
  rw [show (s.reskin d l a).wave = s.wave from rfl]
  repeat' split
  all_goals first | rfl | exact skinFree_evalShed.comp (skinFree_modWave _) d l a s

theorem skinFree_segmentWait : SkinFree (segmentWait ch hitId) := by
  intro d l a s
  simp only [segmentWait]
  rw [show (s.reskin d l a).wave = s.wave from rfl]
  repeat' split
  all_goals rfl

theorem skinFree_shedRecord : SkinFree (shedRecord c) := (skinFree_freeSegmentOf _ _).comp (skinFree_modCounts _ _)

theorem skinFree_loseRecord : SkinFree (loseRecord c) := by
  intro d l a s
  exact (skinFree_setFactor _ _ _).comp (skinFree_freeSegmentOf c.channel c.hitId) d l a
    ((s.modCounts c.channel fun k => { k with lost := k.lost + 1, gap := min (k.gap + 1) gapLimit }).modFigures c.channel
      fun g => { g with lost := g.lost + 1 })

/-- What an admission decides of the segment does not depend on the skin either. -/
theorem segmentAdmitted_reskin (p : Path) (d : Vector Detector 16) (l : Vector Lane 16) (a : Acq) (s : State) :
    segmentAdmitted p ch hitId (s.reskin d l a) =
      ((segmentAdmitted p ch hitId s).1.reskin d l a, (segmentAdmitted p ch hitId s).2) := by
  simp only [segmentAdmitted]
  rw [show (s.reskin d l a).wave = s.wave from rfl]
  repeat' split
  all_goals first | rfl | rw [skinFree_freeSegment]

theorem skinFree_admitRecord (p : Path) : SkinFree (admitRecord p c t) := by
  intro d l a s
  simp only [admitRecord]
  rw [show (s.reskin d l a).modCounts c.channel (fun k => { k with gap := 0 })
      = (s.modCounts c.channel fun k => { k with gap := 0 }).reskin d l a from rfl, segmentAdmitted_reskin]
  generalize segmentAdmitted p c.channel c.hitId _ = r
  exact skinFree_evalShed d l a
    ((enqueueHit (recordOf c t (gapField s.rq.counts[c.channel].gap) r.2) r.1).modCounts c.channel
      fun k => { k with queued := k.queued + 1 })

theorem skinFree_offerStandalone : SkinFree (offerStandalone t c) := by
  intro d l a s
  simp only [offerStandalone]
  rw [show floorSheds c (s.reskin d l a) = floorSheds c s from rfl, show (s.reskin d l a).rq = s.rq from rfl]
  repeat' split
  · exact skinFree_shedRecord c d l a s
  · exact skinFree_loseRecord c d l a s
  · exact skinFree_admitRecord c t _ d l a s

/-- R50, R55, R79, R114: a hit that an entry to OFF closes is handed on alike whatever has become of detectors and lanes by then. -/
theorem skinFree_handOn (h : c.cause = .aborted ∨ c.cause = .clockFault) : SkinFree (handOn c) := by
  intro d l a s
  have judged : c.cause.judged = false := by rcases h with h | h <;> rw [h] <;> rfl
  simp only [handOn, filterRejects, judged, Bool.false_and, Bool.false_eq_true, if_false]
  rw [skinFree_segmentFillEnd]
  generalize segmentFillEnd c.channel c.hitId s = s
  simp only [passHit]
  rw [show (s.reskin d l a).asm = s.asm from rfl]
  repeat' split
  · exact skinFree_offerStandalone c _ d l a s
  · simp only [parkMember]
    rw [skinFree_segmentWait]
    rcases h with h | h <;> rw [h] <;> rfl
  · exact skinFree_offerStandalone c _ d l a s

/-- R55: the closed hits of an entry to OFF handed on one after another. -/
theorem skinFree_forcedClosures (cause : Closure) (h : cause = .aborted ∨ cause = .clockFault) (s : State) :
    SkinFree fun u => (s.forcedClosures cause).foldl (fun u c => handOn c u) u := by
  have all : ∀ c ∈ s.forcedClosures cause, c.cause = cause := by
    intro c hc
    obtain ⟨ch, -, hch⟩ := List.mem_filterMap.mp hc
    obtain ⟨o, -, rfl⟩ := Option.map_eq_some_iff.mp hch
    rfl
  intro d l a
  revert all
  induction s.forcedClosures cause with
  | nil => intro _ _; rfl
  | cons c cs ih =>
    intro all u
    have first : c.cause = .aborted ∨ c.cause = .clockFault := by rw [all c (.head _)]; exact h
    show cs.foldl (fun u c => handOn c u) (handOn c (u.reskin d l a)) = _
    rw [skinFree_handOn c first]
    exact ih (fun c' hc => all c' (.tail _ hc)) (handOn c u)

end Sys2Proof.Machine
end

