-- ==== Sys2Proof/Laws/Interpreter.lean ====
section
/-! SUPPORT. What the end of an event and the arrival of a request can do, where the part is at rest. -/

namespace Sys2Proof.Machine

/-- The scheduler starts no frame while the transmitter is SENDING or the receiver is not ready. -/
theorem schedule_idle {s : State} (h : s.canStart = false) : schedule s = s := by
  simp [schedule, h]

/-- At rest the end of an event does nothing. -/
theorem finish_atRest {s : State} (h : s.AtRest) : finish s = s := by
  unfold finish
  rw [h.inbound]
  exact schedule_idle h.cannotStart

/-- R168: a request offered to an empty inbound queue stands alone in it. -/
theorem offerRequest_empty {s : State} (h : s.link.inbound = []) (r : Request) :
    offerRequest r s = { s with link := { s.link with inbound := [r] } } := by
  simp [offerRequest, h, inboundCapacity]

/-- A state whose inbound queue is empty already is not changed by emptying it. -/
theorem emptied {s : State} (h : s.link.inbound = []) (l : List Request) :
    ({ ({ s with link := { s.link with inbound := l } } : State) with
        link := { s.link with inbound := [] } } : State) = s := by
  have e : s.link = { s.link with inbound := [] } := by rw [← h]
  rw [← e]

/-- R169: a request that arrives at a quiet part is taken at once, and answered. -/
theorem submit_quiet {s : State} (h : s.Quiet) (r : Request) (canStart : (takeRequest r s).canStart = false) :
    submit r s = takeRequest r s := by
  unfold submit
  rw [offerRequest_empty h.inbound]
  have hc : ({ s with link := { s.link with inbound := [r] } } : State).canStart = false := h.cannotStart
  show pump 1 _ = _
  unfold pump
  simp only [schedule_idle hc, h.room, if_true]
  rw [emptied h.inbound]
  exact schedule_idle canStart

/-- Every request row is the arrival of its good request. -/
theorem exec_request {i : Instr} {r : Request} (h : requestOf i = some r) (s : State) : exec i s = .next (submit r s) := by
  cases i <;> simp only [requestOf, Option.some.injEq, reduceCtorEq] at h <;> subst h <;> rfl

/-- What a step can be: the front command's meaning on the queue's rest, or the passing of the link clock. -/
theorem step_spec (s : State) :
    (s.pending = [] ∧ step s = .next (idle s))
      ∨ ∃ c rest, s.pending = c :: rest ∧ step s = exec c { s with pending := rest } := by
  unfold step
  cases h : s.pending with
  | nil => exact .inl ⟨rfl, rfl⟩
  | cons c rest => exact .inr ⟨c, rest, rfl, rfl⟩

end Sys2Proof.Machine
end

