-- ==== Sys2Proof/Laws/Loads.lean ====
section
/-! SUPPORT. The whole-load checks of R188: which entry a check answers, and when it answers none. -/

namespace Sys2Proof.Machine

/-- No entry fails a test exactly where it answers none. -/
theorem firstFailing_none {α : Type} (p : α → Bool) (l : List α) :
    firstFailing p l = none ↔ ∀ (i : Nat) (x : α), l[i]? = some x → p x = false := by
  unfold firstFailing
  constructor
  · intro h i x hx
    by_contra hp
    have : l.any p = true := List.any_eq_true.mpr ⟨x, List.mem_of_getElem? hx, by simpa using hp⟩
    simp [this] at h
  · intro h
    have : l.any p = false := by
      rw [List.any_eq_false]
      intro x hx
      obtain ⟨i, hi⟩ := List.getElem?_of_mem hx
      simp [h i x hi]
    simp [this]

/-- A test answers the lowest entry that fails it. -/
theorem firstFailing_some {α : Type} (p : α → Bool) (l : List α) (i : Nat) :
    firstFailing p l = some i ↔
      (∃ x, l[i]? = some x ∧ p x = true) ∧ ∀ j, j < i → ∀ x, l[j]? = some x → p x = false := by
  unfold firstFailing
  constructor
  · intro h
    split at h
    · rename_i ha
      obtain rfl : l.findIdx p = i := by simpa using h
      have hlt : l.findIdx p < l.length := List.findIdx_lt_length_of_exists (List.any_eq_true.mp ha)
      refine ⟨⟨l[l.findIdx p], List.getElem?_eq_getElem hlt, List.findIdx_getElem⟩, ?_⟩
      intro j hj x hx
      obtain ⟨hj', rfl⟩ := List.getElem?_eq_some_iff.mp hx
      simpa using List.not_of_lt_findIdx hj
    · cases h
  · rintro ⟨⟨x, hx, hp⟩, hl⟩
    have ha : l.any p = true := List.any_eq_true.mpr ⟨x, List.mem_of_getElem? hx, hp⟩
    obtain ⟨hi, rfl⟩ := List.getElem?_eq_some_iff.mp hx
    rw [if_pos ha, Option.some_inj, List.findIdx_eq hi]
    exact ⟨hp, fun j hj => hl j hj _ (List.getElem?_eq_getElem (by omega))⟩

/-- A slot repeats the unordered pair of one before it. -/
theorem duplicates_iff (before : List (Option PairEntry)) (o : Option PairEntry) :
    duplicates before o = true ↔ ∃ p q, o = some p ∧ some q ∈ before ∧ q.names p.chA p.chB = true := by
  cases o with
  | none => simp [duplicates]
  | some p =>
    simp only [duplicates, List.any_eq_true]
    constructor
    · rintro ⟨b, hb, h⟩
      cases b with
      | none => cases h
      | some q => exact ⟨p, q, rfl, hb, h⟩
    · rintro ⟨p', q, h, hq, hn⟩
      cases h
      exact ⟨some q, hq, hn⟩

/-- DUP_PAIR is the first slot that repeats one before it: what it answers for a list of slots, `before` having gone ahead. -/
theorem dupPairFrom_eq (before os : List (Option PairEntry)) (n : Nat) :
    (dupPairFrom before os n = none ↔ ∀ i o, os[i]? = some o → duplicates ((os.take i).reverse ++ before) o = false) ∧
      ∀ k, dupPairFrom before os n = some k ↔
        ∃ i o, k = n + i ∧ os[i]? = some o ∧ duplicates ((os.take i).reverse ++ before) o = true ∧
          ∀ j x, j < i → os[j]? = some x → duplicates ((os.take j).reverse ++ before) x = false := by
  induction os generalizing before n with
  | nil => simp [dupPairFrom]
  | cons a as ih =>
    rw [dupPairFrom]
    obtain ⟨hn, hs⟩ := ih (a :: before) (n + 1)
    by_cases hd : duplicates before a = true
    · rw [if_pos hd]
      refine ⟨⟨nofun, fun h => ?_⟩, fun k => ⟨fun h => ⟨0, a, ?_, rfl, by simpa using hd, nofun⟩, ?_⟩⟩
      · have := h 0 a rfl
        simp [hd] at this
      · simpa using h.symm
      · rintro ⟨i, o, rfl, ho, hdu, hl⟩
        cases i with
        | zero => rfl
        | succ i =>
          have := hl 0 a (by omega) rfl
          simp [hd] at this
    · rw [if_neg hd]
      have hf : duplicates before a = false := by simpa using hd
      constructor
      · rw [hn]
        constructor
        · intro h i o ho
          cases i with
          | zero => cases ho; simpa using hf
          | succ i => simpa using h i o (by simpa using ho)
        · intro h i o ho
          simpa using h (i + 1) o (by simpa using ho)
      · intro k
        rw [hs]
        constructor
        · rintro ⟨i, o, rfl, ho, hdu, hl⟩
          refine ⟨i + 1, o, by omega, by simpa using ho, by simpa using hdu, ?_⟩
          intro j x hj hx
          cases j with
          | zero => cases hx; simpa using hf
          | succ j => simpa using hl j x (by omega) (by simpa using hx)
        · rintro ⟨i, o, rfl, ho, hdu, hl⟩
          cases i with
          | zero => cases ho; simp [hf] at hdu
          | succ i =>
            refine ⟨i, o, by omega, by simpa using ho, by simpa using hdu, ?_⟩
            intro j x hj hx
            simpa using hl (j + 1) x (by omega) (by simpa using hx)

/-- Entries of a vector and of its list are the same. -/
theorem toList_get? {α : Type} {n : Nat} (v : Vector α n) (i : Nat) : v.toList[i]? = v[i]? := by
  simp [← Vector.getElem?_toList]

/-- What one check answers is the lowest entry that fails it. -/
structure Lowest (fails : Nat → Prop) (o : Option Nat) : Prop where
  none : o = none ↔ ∀ i, ¬ fails i
  some : ∀ i, o = some i ↔ fails i ∧ ∀ j, j < i → ¬ fails j

/-- `Lowest` for a test of the entries of a list. -/
theorem lowest_firstFailing {α : Type} (p : α → Bool) (l : List α) :
    Lowest (fun i => ∃ x, l[i]? = some x ∧ p x = true) (firstFailing p l) := by
  constructor
  · rw [firstFailing_none]
    simp only [not_exists, not_and, Bool.not_eq_true]
  · intro i
    rw [firstFailing_some]
    simp only [not_exists, not_and, Bool.not_eq_true]

theorem Lowest.congr {f g : Nat → Prop} {o : Option Nat} (h : Lowest f o) (hg : ∀ i, f i ↔ g i) : Lowest g o :=
  ⟨by rw [h.none]; simp only [hg], fun i => by rw [h.some]; simp only [hg]⟩

/-- Two slots name the same unordered pair. -/
theorem names_iff (p q : PairEntry) :
    q.names p.chA p.chB = true ↔ (p.chA = q.chA ∧ p.chB = q.chB) ∨ (p.chA = q.chB ∧ p.chB = q.chA) := by
  simp only [PairEntry.names, Bool.or_eq_true, Bool.and_eq_true, beq_iff_eq]
  exact or_congr (and_congr eq_comm eq_comm) ⟨fun h => ⟨h.2.symm, h.1.symm⟩, fun h => ⟨h.2.symm, h.1.symm⟩⟩

/-- R188: each check answers the lowest entry that fails it. -/
theorem Detail.failingAt_lowest (d : Detail) (t : Tables) : Lowest (d.FailsAt t) (d.failingAt t) := by
  cases d
  case selfPair =>
    refine (lowest_firstFailing _ _).congr fun i => ?_
    simp only [toList_get?, FailsAt]
    constructor
    · rintro ⟨o, ho, hp⟩
      cases o with
      | none => cases hp
      | some p => exact ⟨p, ho, by simpa using hp⟩
    · rintro ⟨p, ho, hp⟩
      exact ⟨some p, ho, by simpa using hp⟩
  case dupPair =>
    have key : ∀ i, (∃ o, t.pair.toList[i]? = some o ∧ duplicates ((t.pair.toList.take i).reverse ++ []) o = true) ↔
        Detail.dupPair.FailsAt t i := by
      intro i
      simp only [duplicates_iff, List.append_nil, List.mem_reverse, FailsAt]
      constructor
      · rintro ⟨o, ho, p, q, rfl, hq, hn⟩
        obtain ⟨j, hj⟩ := List.getElem?_of_mem hq
        rw [List.getElem?_take] at hj
        split at hj
        · rename_i hlt
          rw [toList_get?] at ho hj
          exact ⟨p, q, j, ho, hj, hlt, (names_iff p q).mp hn⟩
        · cases hj
      · rintro ⟨p, q, j, hp, hq, hlt, hn⟩
        refine ⟨some p, by rw [toList_get?]; exact hp, p, q, rfl, ?_, (names_iff p q).mpr hn⟩
        have : (t.pair.toList.take i)[j]? = some (some q) := by
          rw [List.getElem?_take, if_pos hlt, toList_get?]; exact hq
        exact List.mem_of_getElem? this
    obtain ⟨hn, hs⟩ := dupPairFrom_eq [] t.pair.toList 0
    refine Lowest.congr (f := fun i => ∃ o, t.pair.toList[i]? = some o ∧
      duplicates ((t.pair.toList.take i).reverse ++ []) o = true) ⟨?_, fun i => ?_⟩ key
    · refine hn.trans ?_
      simp only [not_exists, not_and, Bool.not_eq_true]
    · refine (hs i).trans ?_
      simp only [not_exists, not_and, Bool.not_eq_true, Nat.zero_add]
      constructor
      · rintro ⟨j, o, rfl, ho, hd, hl⟩
        exact ⟨⟨o, ho, hd⟩, fun j hj x hx => hl j x hj hx⟩
      · rintro ⟨⟨o, ho, hd⟩, hl⟩
        exact ⟨i, o, rfl, ho, hd, fun j x hj hx => hl j hj x hx⟩
  case pairGuard =>
    refine (lowest_firstFailing _ _).congr fun i => ?_
    simp only [toList_get?, FailsAt]
    constructor
    · rintro ⟨o, ho, hp⟩
      cases o with
      | none => cases hp
      | some p => exact ⟨p, ho, by simpa [Tables.guardRole] using hp⟩
    · rintro ⟨p, ho, hp⟩
      exact ⟨some p, ho, by simpa [Tables.guardRole] using hp⟩
  case guardMask =>
    refine (lowest_firstFailing _ _).congr fun i => ?_
    simp only [FailsAt]
    constructor
    · rintro ⟨ch, hc, hp⟩
      have hi : i = ch.val := by
        have : channels = List.finRange 16 := by decide
        rw [this] at hc
        obtain ⟨_, h⟩ := List.getElem?_eq_some_iff.mp hc
        rw [← h]; simp
      subst hi
      simp only [Bool.and_eq_true, List.any_eq_true, Bool.or_eq_true, beq_iff_eq, Tables.guardRole] at hp
      obtain ⟨hr, j, _, hm, hj⟩ := hp
      exact ⟨t.channel[ch], by simp, hr, j, hm, hj.imp (congrArg Fin.val) id⟩
    · rintro ⟨e, he, hr, j, hm, hj⟩
      obtain ⟨hi, rfl⟩ := Vector.getElem?_eq_some_iff.mp he
      refine ⟨⟨i, hi⟩, ?_, ?_⟩
      · have : channels = List.finRange 16 := by decide
        rw [this]; simp [hi]
      · simp only [Bool.and_eq_true, List.any_eq_true, Bool.or_eq_true, beq_iff_eq, Tables.guardRole]
        exact ⟨hr, j, mem_channels j, hm, hj.imp Fin.ext id⟩
  all_goals
    refine (lowest_firstFailing _ _).congr fun i => ?_
    simp only [toList_get?, FailsAt, decide_eq_true_eq]

/-- R188: the checks of a table answer exactly what makes a load of it INVALID. -/
theorem firstFailure_iff (t : Tables) (ds : List Detail) :
    (firstFailure t ds = none ↔ ∀ d ∈ ds, ∀ i, ¬ d.FailsAt t i) ∧
      ∀ d i, firstFailure t ds = some (d, i) ↔
        ∃ earlier later, ds = earlier ++ d :: later ∧ (∀ c ∈ earlier, ∀ j, ¬ c.FailsAt t j) ∧ d.FailsAt t i ∧
          ∀ j, j < i → ¬ d.FailsAt t j := by
  induction ds with
  | nil => exact ⟨by simp [firstFailure], fun d i => by simp [firstFailure]⟩
  | cons d ds ih =>
    have hl := d.failingAt_lowest t
    rw [firstFailure]
    cases hf : d.failingAt t with
    | none =>
      rw [hf] at hl
      have hn := hl.none.mp rfl
      simp only
      refine ⟨by rw [ih.1]; simp only [List.forall_mem_cons]; exact ⟨fun h => ⟨hn, h⟩, And.right⟩, fun e i => ?_⟩
      rw [ih.2]
      constructor
      · rintro ⟨a, b, rfl, ha, he, hlow⟩
        exact ⟨d :: a, b, rfl, by simp only [List.forall_mem_cons]; exact ⟨hn, ha⟩, he, hlow⟩
      · rintro ⟨a, b, hab, ha, he, hlow⟩
        cases a with
        | nil => cases hab; exact absurd he (hn i)
        | cons x a =>
          cases hab
          exact ⟨a, b, rfl, fun c hc => ha c (List.mem_cons_of_mem _ hc), he, hlow⟩
    | some k =>
      rw [hf] at hl
      have hk := (hl.some k).mp rfl
      simp only
      refine ⟨⟨nofun, fun h => absurd hk.1 (h d List.mem_cons_self k)⟩, fun e i => ?_⟩
      constructor
      · intro h
        cases h
        exact ⟨[], ds, rfl, nofun, hk⟩
      · rintro ⟨a, b, hab, ha, he, hlow⟩
        cases a with
        | nil =>
          cases hab
          have hik := (hl.some i).mpr ⟨he, hlow⟩
          cases hik; rfl
        | cons x a => cases hab; exact absurd hk.1 (ha d List.mem_cons_self k)

end Sys2Proof.Machine
end

