-- ==== Sys2Proof/Laws/PerInstr.lean ====
section
/-! SUPPORT. Statements for all commands, one lemma for each constructor. -/

namespace Sys2Proof.Laws

/-- R200: the good request that a request row stands for has one of the sixteen request kinds. -/
def RequestKind.Statement (i : Instr) : Prop :=
  ∀ r, Sys2Proof.Machine.requestOf i = some r → Sys2Proof.Machine.isRequestKind r.kind = true

theorem RequestKind.powerOnReset : RequestKind.Statement (.powerOnReset) := by
  rintro _ ⟨⟩

theorem RequestKind.identify (tag : Byte) : RequestKind.Statement (.identify tag) := by
  rintro _ ⟨⟩; rfl

theorem RequestKind.goStandby (tag : Byte) : RequestKind.Statement (.goStandby tag) := by
  rintro _ ⟨⟩; rfl

theorem RequestKind.goArmed (tag : Byte) : RequestKind.Statement (.goArmed tag) := by
  rintro _ ⟨⟩; rfl

theorem RequestKind.goOff (tag : Byte) : RequestKind.Statement (.goOff tag) := by
  rintro _ ⟨⟩; rfl

theorem RequestKind.abort (tag : Byte) : RequestKind.Statement (.abort tag) := by
  rintro _ ⟨⟩; rfl

theorem RequestKind.zeroTime (tag : Byte) : RequestKind.Statement (.zeroTime tag) := by
  rintro _ ⟨⟩; rfl

theorem RequestKind.loadBegin (tag table first count : Byte) : RequestKind.Statement (.loadBegin tag table first count) := by
  rintro _ ⟨⟩; rfl

theorem RequestKind.loadData (tag table count : Byte) (entries : List Byte) : RequestKind.Statement (.loadData tag table count entries) := by
  rintro _ ⟨⟩; rfl

theorem RequestKind.loadAbort (tag : Byte) : RequestKind.Statement (.loadAbort tag) := by
  rintro _ ⟨⟩; rfl

theorem RequestKind.readTable (tag table first count : Byte) : RequestKind.Statement (.readTable tag table first count) := by
  rintro _ ⟨⟩; rfl

theorem RequestKind.lockTest (tag : Byte) : RequestKind.Statement (.lockTest tag) := by
  rintro _ ⟨⟩; rfl

theorem RequestKind.unlockTest (tag : Byte) : RequestKind.Statement (.unlockTest tag) := by
  rintro _ ⟨⟩; rfl

theorem RequestKind.statusRead (tag page : Byte) : RequestKind.Statement (.statusRead tag page) := by
  rintro _ ⟨⟩; rfl

theorem RequestKind.clearConditions (tag : Byte) (masks : List Byte) : RequestKind.Statement (.clearConditions tag masks) := by
  rintro _ ⟨⟩; rfl

theorem RequestKind.setEnables (tag group groupEnable : Byte) (enables : List Byte) : RequestKind.Statement (.setEnables tag group groupEnable enables) := by
  rintro _ ⟨⟩; rfl

theorem RequestKind.setPhase (tag phase : Byte) : RequestKind.Statement (.setPhase tag phase) := by
  rintro _ ⟨⟩; rfl

theorem RequestKind.resetLoadHistory (tag : Byte) : RequestKind.Statement (.resetLoadHistory tag) := by
  rintro _ ⟨⟩; rfl

theorem RequestKind.softReset (tag : Byte) : RequestKind.Statement (.softReset tag) := by
  rintro _ ⟨⟩; rfl

theorem RequestKind.downlinkFrameEnd (wire : List Byte) : RequestKind.Statement (.downlinkFrameEnd wire) := by
  rintro _ ⟨⟩

theorem RequestKind.lockAchieved : RequestKind.Statement (.lockAchieved) := by
  rintro _ ⟨⟩

theorem RequestKind.lockTimerExpiry : RequestKind.Statement (.lockTimerExpiry) := by
  rintro _ ⟨⟩

theorem RequestKind.lockLost : RequestKind.Statement (.lockLost) := by
  rintro _ ⟨⟩

theorem RequestKind.sampleRow (words : Vector LaneWord 16) : RequestKind.Statement (.sampleRow words) := by
  rintro _ ⟨⟩

theorem RequestKind.rearmExpiry (ch : Channel) : RequestKind.Statement (.rearmExpiry ch) := by
  rintro _ ⟨⟩

theorem RequestKind.laneSyncTimeout (ch : Channel) : RequestKind.Statement (.laneSyncTimeout ch) := by
  rintro _ ⟨⟩

theorem RequestKind.laneSettleEnd (ch : Channel) : RequestKind.Statement (.laneSettleEnd ch) := by
  rintro _ ⟨⟩

theorem RequestKind.syncingSubstepEnd : RequestKind.Statement (.syncingSubstepEnd) := by
  rintro _ ⟨⟩

theorem RequestKind.settlingSubstepEnd : RequestKind.Statement (.settlingSubstepEnd) := by
  rintro _ ⟨⟩

theorem RequestKind.learningEnd : RequestKind.Statement (.learningEnd) := by
  rintro _ ⟨⟩

theorem RequestKind.windowExpiry : RequestKind.Statement (.windowExpiry) := by
  rintro _ ⟨⟩

theorem RequestKind.intervalExpiry : RequestKind.Statement (.intervalExpiry) := by
  rintro _ ⟨⟩

theorem RequestKind.pressureWord (word : PressureWord) : RequestKind.Statement (.pressureWord word) := by
  rintro _ ⟨⟩

theorem RequestKind.plSlotEnd : RequestKind.Statement (.plSlotEnd) := by
  rintro _ ⟨⟩

theorem RequestKind.flushExpiry : RequestKind.Statement (.flushExpiry) := by
  rintro _ ⟨⟩

theorem RequestKind.readinessReport (ready : Bool) : RequestKind.Statement (.readinessReport ready) := by
  rintro _ ⟨⟩

theorem RequestKind.frameSent : RequestKind.Statement (.frameSent) := by
  rintro _ ⟨⟩

theorem RequestKind.loadIdleTimeout : RequestKind.Statement (.loadIdleTimeout) := by
  rintro _ ⟨⟩

end Sys2Proof.Laws
end

