-- ==== Sys2Proof/Laws/Waveform.lean ====
section
/-! SUPPORT. What the operations of the Waveform Store can do to the rest of the part: they write the store, and an evaluation of
the shed level may follow. -/

namespace Sys2Proof.Machine

/-- All that settings, evaluations of the shed level and segment handling write: the store, the latched factors, the Notice Queue
and the shed level. The Notice Queue keeps its capacity and the shed level goes on following the occupancy. -/
structure Booked (s t : State) : Prop where
  eq : t = { s with
    wave := t.wave
    cond := { s.cond with factors := t.cond.factors }
    rq := { s.rq with notices := t.rq.notices, shed := t.rq.shed } }
  notices : s.rq.notices.length ≤ noticeCapacity → t.rq.notices.length ≤ noticeCapacity
  shed : s.ShedFollows → t.ShedFollows

theorem Booked.refl (s : State) : Booked s s := ⟨rfl, id, id⟩

theorem Booked.trans {s t u : State} (h : Booked s t) (k : Booked t u) : Booked s u := by
  refine ⟨?_, k.notices ∘ h.notices, k.shed ∘ h.shed⟩
  rw [k.eq]
  simp only
  rw [h.eq]

section fields
variable {s t : State} (h : Booked s t)
include h

theorem Booked.synth : t.synth = s.synth := by rw [h.eq]
theorem Booked.tt : t.tt = s.tt := by rw [h.eq]
theorem Booked.now : t.now = s.now := by rw [h.eq]
theorem Booked.lanes : t.lanes = s.lanes := by rw [h.eq]
theorem Booked.acq : t.acq = s.acq := by rw [h.eq]
theorem Booked.dets : t.dets = s.dets := by rw [h.eq]
theorem Booked.asm : t.asm = s.asm := by rw [h.eq]
theorem Booked.hist : t.hist = s.hist := by rw [h.eq]
theorem Booked.timer : t.timer = s.timer := by rw [h.eq]
theorem Booked.link : t.link = s.link := by rw [h.eq]
theorem Booked.tables : t.tables = s.tables := by rw [h.eq]
theorem Booked.crcs : t.crcs = s.crcs := by rw [h.eq]
theorem Booked.loader : t.loader = s.loader := by rw [h.eq]
theorem Booked.lock : t.lock = s.lock := by rw [h.eq]
theorem Booked.pending : t.pending = s.pending := by rw [h.eq]
theorem Booked.enables : t.cond.enables = s.cond.enables := by rw [h.eq]
theorem Booked.groupEnables : t.cond.groupEnables = s.cond.groupEnables := by rw [h.eq]
theorem Booked.hits : t.rq.hits = s.rq.hits := by rw [h.eq]
theorem Booked.events : t.rq.events = s.rq.events := by rw [h.eq]
theorem Booked.responses : t.rq.responses = s.rq.responses := by rw [h.eq]
theorem Booked.counts : t.rq.counts = s.rq.counts := by rw [h.eq]
theorem Booked.tx : t.rq.tx = s.rq.tx := by rw [h.eq]
theorem Booked.ready : t.rq.ready = s.rq.ready := by rw [h.eq]
theorem Booked.framesSent : t.rq.framesSent = s.rq.framesSent := by rw [h.eq]

end fields

/-- A setting is bookkeeping. -/
theorem setFactor_booked (f : Factor) (index : Nat) (reached : Option Nat) (s : State) :
    Booked s (setFactor f index reached s) := by
  obtain ⟨fs, ns, h, hn⟩ := setFactor_frame f index reached s
  rw [h]
  exact ⟨rfl, hn, fun k => ⟨k.capacity, k.one, k.two, k.three⟩⟩

theorem raise_booked (f : Factor) (s : State) : Booked s (raise f s) := setFactor_booked _ _ _ s

/-- An evaluation of the shed level is bookkeeping. -/
theorem evalShed_booked (s : State) : Booked s (evalShed s) := by
  obtain ⟨fs, ns, h, hn⟩ := evalShed_frame s
  refine ⟨by rw [h]; rfl, by rw [h]; exact hn, fun k => ?_⟩
  exact evalShed_follows s s.rq.hits.length (Nat.le_succ _) k.capacity k.one k.two k.three

/-- A change of the store alone is bookkeeping. -/
theorem modWave_booked (f : WaveStore → WaveStore) (s : State) : Booked s (s.modWave f) :=
  ⟨rfl, id, fun k => ⟨k.capacity, k.one, k.two, k.three⟩⟩

theorem freeSegment_booked (i : Fin 64) (s : State) : Booked s (freeSegment i s) :=
  (modWave_booked _ s).trans (evalShed_booked _)

theorem freeSegmentOf_booked (ch : Channel) (hitId : Counter) (s : State) : Booked s (freeSegmentOf ch hitId s) := by
  unfold freeSegmentOf
  split
  · exact .refl s
  · exact freeSegment_booked _ s

theorem segmentLeavesContext_booked (ch : Channel) (hitId : Counter) (s : State) :
    Booked s (segmentLeavesContext ch hitId s) := by
  unfold segmentLeavesContext
  split
  · exact .refl s
  · split
    · split
      · exact freeSegment_booked _ s
      · exact .refl s
    · exact .refl s

theorem segmentFill_booked (ch : Channel) (hitId : Counter) (smp : Sample) (s : State) :
    Booked s (segmentFill ch hitId smp s) := by
  unfold segmentFill
  split
  · exact .refl s
  · split
    · split
      · exact modWave_booked _ s
      · exact .refl s
    · exact .refl s

theorem segmentFillEnd_booked (ch : Channel) (hitId : Counter) (s : State) : Booked s (segmentFillEnd ch hitId s) := by
  unfold segmentFillEnd
  split
  · exact .refl s
  · split
    · simp only
      split
      · exact (modWave_booked _ s).trans (evalShed_booked _)
      · exact .refl s
    · exact .refl s

theorem segmentWait_booked (ch : Channel) (hitId : Counter) (s : State) : Booked s (segmentWait ch hitId s) := by
  unfold segmentWait
  split
  · exact .refl s
  · split
    · exact modWave_booked _ s
    · exact .refl s

theorem segmentComplete_booked (i : Fin 64) (g : Segment) (s : State) : Booked s (segmentComplete i g s) :=
  modWave_booked _ s

theorem segmentAdmitted_booked (p : Path) (ch : Channel) (hitId : Counter) (s : State) :
    Booked s (segmentAdmitted p ch hitId s).1 := by
  unfold segmentAdmitted
  split
  · exact .refl s
  · split
    · split
      · exact segmentComplete_booked _ _ s
      · exact freeSegment_booked _ s
    · exact .refl s

theorem ringWrite_booked (ch : Channel) (smp : Sample) (s : State) : Booked s (ringWrite ch smp s) := modWave_booked _ s

theorem ringClear_booked (ch : Channel) (s : State) : Booked s (ringClear ch s) := modWave_booked _ s

/-- R135: the capture decision is bookkeeping, and it may mark the open hit WF_SKIPPED. -/
theorem decideCapture_spec (ch : Channel) (hitId : Counter) (arrival : TestTime) (s : State) :
    ∃ u, Booked s u ∧
      (decideCapture ch hitId arrival s = u
        ∨ decideCapture ch hitId arrival s = u.modOpen ch fun h => { h with wfSkipped := true }) := by
  unfold decideCapture
  simp only
  split
  · exact ⟨s, .refl s, .inl rfl⟩
  · split
    · split
      · exact ⟨_, (modWave_booked _ s).trans (evalShed_booked _), .inl rfl⟩
      · exact ⟨_, modWave_booked _ s, .inr rfl⟩
    · exact ⟨_, modWave_booked _ s, .inr rfl⟩

end Sys2Proof.Machine
end

