-- ==== Sys2Proof/Laws/Records.lean ====
section
/-! SUPPORT. What becomes of a closed hit that is offered to the Record Queues. -/

namespace Sys2Proof.Machine

/-- R163: the four terms of a channel's account that count hits whose fate is taken. -/
def ChannelCounts.fates (k : ChannelCounts) : Counter := k.queued + k.filtered + k.shed + k.lost

/-- What the fate of one hit of a channel writes: bookkeeping, the Hit Queue, the channel's counters and its interval figures.
Exactly one of the four terms of its channel's account has advanced by one. -/
structure Fated (ch : Channel) (s t : State) : Prop where
  eq : t = { s with
    wave := t.wave
    cond := { s.cond with factors := t.cond.factors }
    rq := { s.rq with hits := t.rq.hits, notices := t.rq.notices, shed := t.rq.shed, counts := t.rq.counts }
    timer := { s.timer with figures := t.timer.figures } }
  fates : t.rq.counts[ch].fates = s.rq.counts[ch].fates + 1
  others : ∀ j, j ≠ ch → t.rq.counts[j] = s.rq.counts[j]
  notices : s.rq.notices.length ≤ noticeCapacity → t.rq.notices.length ≤ noticeCapacity
  hits : s.rq.hits.length ≤ hitCapacity → t.rq.hits.length ≤ hitCapacity
  shed : s.ShedFollows → t.ShedFollows

theorem fates_shed (k : ChannelCounts) : ({ k with shed := k.shed + 1 } : ChannelCounts).fates = k.fates + 1 := by
  simp only [ChannelCounts.fates]; ac_rfl

theorem fates_queued (k : ChannelCounts) : ({ k with queued := k.queued + 1 } : ChannelCounts).fates = k.fates + 1 := by
  simp only [ChannelCounts.fates]; ac_rfl

theorem fates_filtered (k : ChannelCounts) : ({ k with filtered := k.filtered + 1 } : ChannelCounts).fates = k.fates + 1 := by
  simp only [ChannelCounts.fates]; ac_rfl

theorem fates_lost (k : ChannelCounts) (gap : Nat) :
    ({ k with lost := k.lost + 1, gap := gap } : ChannelCounts).fates = k.fates + 1 := by
  simp only [ChannelCounts.fates]; ac_rfl

/-- Bookkeeping after a fate changes nothing of it. -/
theorem Fated.booked {ch : Channel} {s t u : State} (h : Fated ch s t) (k : Booked t u) : Fated ch s u := by
  refine ⟨?_, ?_, ?_, k.notices ∘ h.notices, ?_, k.shed ∘ h.shed⟩
  · rw [k.eq]; simp only; rw [h.eq]
  · rw [k.counts]; exact h.fates
  · intro j hj; rw [k.counts]; exact h.others j hj
  · rw [k.hits]; exact h.hits

/-- R149: a record shed. -/
theorem shedRecord_fated (c : ClosedHit) (s : State) : Fated c.channel s (shedRecord c s) := by
  refine Fated.booked (t := s.modCounts c.channel fun k => { k with shed := k.shed + 1 }) ?_ (freeSegmentOf_booked _ _ _)
  refine ⟨rfl, ?_, ?_, id, id, fun k => ⟨k.capacity, k.one, k.two, k.three⟩⟩
  · simp only [State.modCounts_rq, upd_same, fates_shed]
  · intro j hj; simp only [State.modCounts_rq, upd_other _ _ _ _ (Ne.symm hj)]

/-- R151: a record lost. -/
theorem loseRecord_fated (c : ClosedHit) (s : State) : Fated c.channel s (loseRecord c s) := by
  refine Fated.booked (Fated.booked (t := (s.modCounts c.channel fun k =>
      { k with lost := k.lost + 1, gap := min (k.gap + 1) gapLimit }).modFigures c.channel fun g =>
      { g with lost := g.lost + 1 }) ?_ (freeSegmentOf_booked c.channel c.hitId _)) (raise_booked .hitLoss _)
  refine ⟨rfl, ?_, ?_, id, id, fun k => ⟨k.capacity, k.one, k.two, k.three⟩⟩
  · simp only [State.modFigures_rq, State.modCounts_rq, upd_same, fates_lost]
  · intro j hj; simp only [State.modFigures_rq, State.modCounts_rq, upd_other _ _ _ _ (Ne.symm hj)]

/-- R150: a record admitted while the Hit Queue has room. -/
theorem admitRecord_fated (p : Path) (c : ClosedHit) (t : EventTag) (s : State) (room : s.rq.hits.length < hitCapacity) :
    Fated c.channel s (admitRecord p c t s) := by
  unfold admitRecord
  simp only
  generalize hs₁ : (s.modCounts c.channel fun k => { k with gap := 0 }) = s₁
  have hc := segmentAdmitted_booked p c.channel c.hitId s₁
  generalize hs₂ : (segmentAdmitted p c.channel c.hitId s₁).1 = s₂ at hc ⊢
  generalize recordOf c t (gapField s.rq.counts[c.channel].gap) (segmentAdmitted p c.channel c.hitId s₁).2 = r
  generalize hs₃ : ((enqueueHit r s₂).modCounts c.channel fun k => { k with queued := k.queued + 1 }) = s₃
  have e := evalShed_booked s₃
  have hits₃ : s₃.rq.hits.length = s.rq.hits.length + 1 := by
    subst hs₃ hs₁
    simp [enqueueHit, hc.hits]
  have counts₃ : s₃.rq.counts =
      upd (upd s.rq.counts c.channel fun k => { k with gap := 0 }) c.channel fun k => { k with queued := k.queued + 1 } := by
    subst hs₃ hs₁
    simp only [State.modCounts_rq, enqueueHit, hc.counts]
  refine ⟨?_, ?_, ?_, ?_, ?_, ?_⟩
  · rw [e.eq]; subst hs₃; simp only [State.modCounts, enqueueHit]; rw [hc.eq]; subst hs₁; rfl
  · rw [e.counts, counts₃, upd_same, upd_same, fates_queued]; rfl
  · intro j hj
    rw [e.counts, counts₃, upd_other _ _ _ _ (Ne.symm hj), upd_other _ _ _ _ (Ne.symm hj)]
  · intro hn
    refine e.notices ?_
    subst hs₃ hs₁
    exact hc.notices hn
  · intro _
    rw [e.hits, hits₃]
    exact room
  · intro k
    have k₂ : s₂.ShedFollows := hc.shed (by subst hs₁; exact ⟨k.capacity, k.one, k.two, k.three⟩)
    have h₂ : s₂.rq.hits.length = s.rq.hits.length := by rw [hc.hits]; subst hs₁; rfl
    have l₃ : s₃.rq.shed = s₂.rq.shed := by subst hs₃; rfl
    refine evalShed_follows s₃ s₂.rq.hits.length ?_ ?_ ?_ ?_ ?_
    · rw [hits₃, h₂]
    · rw [hits₃]; exact room
    · rw [l₃]; exact k₂.one
    · rw [l₃]; exact k₂.two
    · rw [l₃]; exact k₂.three

/-- R148: a standalone record is shed, lost or admitted; each is one fate of its channel. -/
theorem offerStandalone_fated (t : EventTag) (c : ClosedHit) (s : State) :
    Fated c.channel s (offerStandalone t c s) := by
  unfold offerStandalone
  split
  · exact shedRecord_fated c s
  · split
    · exact loseRecord_fated c s
    · next h => exact admitRecord_fated _ c t s (Nat.lt_of_not_le h)

/-- R110: a member that is handed to the Hit Queue is admitted, or lost at a full queue. -/
theorem offerMember_fated (eventId : Counter) (c : ClosedHit) (s : State) :
    Fated c.channel s (offerMember eventId c s) := by
  unfold offerMember
  split
  · exact loseRecord_fated c s
  · next h => exact admitRecord_fated _ c _ s (Nat.lt_of_not_le h)

end Sys2Proof.Machine
end

