-- ==== Sys2Proof/Laws/Standing.lean ====
section
/-! SUPPORT. What applying an entry, standing down and an entry to OFF do to detectors and lanes. -/

namespace Sys2Proof.Machine

/-! ## Changes of one entry -/

theorem upd_upd {α : Type} {n : Nat} (v : Vector α n) (i : Fin n) (f g : α → α) :
    upd (upd v i f) i g = upd v i fun x => g (f x) := by
  refine table_ext fun j => ?_
  simp only [upd_get]
  split <;> rfl

theorem upd_congr {α : Type} {n : Nat} (v : Vector α n) (i : Fin n) {f g : α → α} (h : f v[i] = g v[i]) :
    upd v i f = upd v i g := by
  unfold upd; rw [h]

theorem upd_same_value {α : Type} {n : Nat} (v : Vector α n) (i : Fin n) {f : α → α} (h : f v[i] = v[i]) : upd v i f = v := by
  refine table_ext fun j => ?_
  rw [upd_get]
  split
  · next e => subst e; exact h
  · rfl

/-! ## Applying an entry -/

/-- R57, R58: an applied entry gives the detector its values, and BLOCKS one without an open hit if the channel is disabled; the lane
follows the enabled flag. -/
theorem applyEntry_eq (ch : Channel) (e : ChannelEntry) (s : State) :
    applyEntry ch e s = s.withChannels
      (upd s.dets ch fun d => if e.enabled then d.withEntry e else (d.withEntry e).block)
      (upd s.lanes ch (Lane.follow e.enabled s.acq s.ticking)) := by
  unfold applyEntry
  cases he : e.enabled with
  | true => rfl
  | false =>
    simp only [Bool.false_eq_true, if_false, State.modDet, State.modLane, State.withChannels, upd_upd]
    rfl

theorem withEntry_eq (e : ChannelEntry) (d : Detector) : d.withEntry e = Detector.given e d := rfl

theorem Detector.block_closed {d : Detector} (h : ∀ k, d.machine ≠ .inHit k) : d.block = { d with machine := .blocked } := by
  obtain ⟨m, _⟩ := d
  cases m with
  | inHit k => exact absurd rfl (h k)
  | idle => rfl
  | rearmHold => rfl
  | blocked => rfl

theorem Detector.stoodDown_none {d : Detector} (h : ∀ k, d.machine ≠ .inHit k) (hw : d.waiting = none) :
    d.stoodDown = { d with machine := .blocked } := by
  obtain ⟨m, _, _, _, w, _⟩ := d
  subst hw
  cases m with
  | inHit k => exact absurd rfl (h k)
  | idle => rfl
  | rearmHold => rfl
  | blocked => rfl

theorem Detector.stoodDown_some {d : Detector} {e : ChannelEntry} (h : ∀ k, d.machine ≠ .inHit k) (hw : d.waiting = some e) :
    d.stoodDown = { Detector.given e d with machine := .blocked } := by
  obtain ⟨m, _, _, _, w, _⟩ := d
  subst hw
  cases m with
  | inHit k => exact absurd rfl (h k)
  | idle => rfl
  | rearmHold => rfl
  | blocked => rfl

theorem Detector.stoodDown_open {d : Detector} {k : OpenHit} (h : d.machine = .inHit k) : d.stoodDown = d := by
  obtain ⟨m, _⟩ := d
  subst h
  rfl

/-- R53, R57: what a detector that holds no open hit becomes when it is BLOCKED; one that holds a hit is not touched. -/
theorem blockDetector_eq (ch : Channel) (s : State) :
    blockDetector ch s = s.withChannels
      (upd s.dets ch Detector.stoodDown)
      (upd s.lanes ch fun l =>
        match s.dets[ch].machine, s.dets[ch].waiting with
        | .inHit _, _ => l
        | .idle, none | .rearmHold, none | .blocked, none => l
        | .idle, some e | .rearmHold, some e | .blocked, some e => Lane.follow e.enabled s.acq s.ticking l) := by
  unfold blockDetector
  have key : (∀ k, s.dets[ch].machine ≠ .inHit k) →
      applyWaiting ch (s.modDet ch Detector.block) = s.withChannels
        (upd s.dets ch Detector.stoodDown)
        (upd s.lanes ch fun l =>
          match s.dets[ch].waiting with
          | none => l
          | some e => Lane.follow e.enabled s.acq s.ticking l) := by
    intro hm
    have hb := Detector.block_closed hm
    unfold applyWaiting
    have hw : (s.modDet ch Detector.block).dets[ch].waiting = s.dets[ch].waiting := by
      simp only [State.modDet, upd_same, hb]
    rw [hw]
    cases h : s.dets[ch].waiting with
    | none =>
      simp only [State.modDet, State.withChannels]
      rw [upd_congr s.dets ch (hb.trans (Detector.stoodDown_none hm h).symm), upd_same_value s.lanes ch rfl]
    | some e =>
      simp only [applyEntry_eq]
      simp only [State.modDet, State.withChannels, upd_upd, State.ticking]
      rw [upd_congr s.dets ch (g := Detector.stoodDown) (by
        rw [hb, Detector.stoodDown_some hm h]
        cases e.enabled <;> rfl)]
  cases hm : s.dets[ch].machine with
  | inHit h =>
    simp only [State.withChannels]
    rw [upd_same_value s.dets ch (Detector.stoodDown_open hm), upd_same_value s.lanes ch rfl]
  | idle => rw [key (by rw [hm]; exact fun _ => DetState.noConfusion)]; cases s.dets[ch].waiting <;> rfl
  | rearmHold => rw [key (by rw [hm]; exact fun _ => DetState.noConfusion)]; cases s.dets[ch].waiting <;> rfl
  | blocked => rw [key (by rw [hm]; exact fun _ => DetState.noConfusion)]; cases s.dets[ch].waiting <;> rfl

/-- What BLOCKED detectors leave of a lane. -/
def Lane.followWaiting (d : Detector) (acq : Acq) (ticking : Bool) (l : Lane) : Lane :=
  match d.machine, d.waiting with
  | .inHit _, _ => l
  | .idle, none | .rearmHold, none | .blocked, none => l
  | .idle, some e | .rearmHold, some e | .blocked, some e => Lane.follow e.enabled acq ticking l

/-- Every detector that holds no open hit is BLOCKED. -/
theorem blockAll_eq (s : State) :
    channels.foldl (fun s ch => blockDetector ch s) s = s.withChannels
      (tabulate fun ch => s.dets[ch].stoodDown)
      (tabulate fun ch => s.lanes[ch].followWaiting s.dets[ch] s.acq s.ticking) := by
  refine channels_foldl (f := fun _ d _ => d.stoodDown) (g := fun _ d l => l.followWaiting d s.acq s.ticking) ⟨?_⟩
  intro ch dets lanes
  rw [blockDetector_eq]
  rfl

/-- In a state other than OFF a lane follows a waiting entry as `Lane.stoodDown` says. -/
theorem followWaiting_stoodDown (d : Detector) (a : Acq) (ticking : Bool) (l : Lane) (h : a ≠ .off) :
    l.followWaiting d a ticking = l.stoodDown d ticking := by
  unfold Lane.followWaiting Lane.stoodDown Lane.follow
  have ha : (a != .off) = true := by simp [h]
  cases d.machine <;> cases d.waiting <;> simp only [ha, Bool.and_true, Bool.and_eq_true, beq_iff_eq]

/-- A lane that follows a waiting entry and then enters OFF is the lane that enters OFF. -/
theorem followWaiting_toOff (d : Detector) (a : Acq) (ticking : Bool) (l : Lane) :
    (l.followWaiting d a ticking).toOff = l.toOff := by
  have hf : ∀ on, (Lane.follow on a ticking l).toOff = l.toOff := by
    intro on
    unfold Lane.follow
    split
    · split <;> rfl
    · rfl
  unfold Lane.followWaiting
  cases d.machine <;> cases d.waiting <;> first | rfl | exact hf _

/-- R28: an entry to OFF with the reason "off" while no hit is open. -/
theorem enterOff_off (s : State) (closed : ∀ ch : Channel, s.dets[ch].open? = none)
    (notLearning : ∀ n p, s.acq ≠ .learning n p) : enterOff .off s = s.wentOff := by
  have hl : leaveForOff s = { s with acq := .off } := by
    unfold leaveForOff
    cases h : s.acq with
    | learning n p => exact absurd h (notLearning n p)
    | off => rfl
    | starting t u => rfl
    | standby => rfl
    | armed => rfl
    | draining t => rfl
  have hd : ∀ t : State, (∀ ch : Channel, t.dets[ch].open? = none) →
      channels.foldl (fun s ch => detectorOff .off ch s) t = channels.foldl (fun s ch => blockDetector ch s) t := by
    have step : ∀ (chs : List Channel) (t : State), (∀ ch : Channel, t.dets[ch].open? = none) →
        chs.foldl (fun s ch => detectorOff .off ch s) t = chs.foldl (fun s ch => blockDetector ch s) t := by
      intro chs
      induction chs with
      | nil => intros; rfl
      | cons c cs ih =>
        intro t ht
        have hc : detectorOff .off c t = blockDetector c t := by
          unfold detectorOff
          have := ht c
          unfold Detector.open? at this
          cases hm : t.dets[c].machine with
          | inHit h => rw [hm] at this; cases this
          | idle => rfl
          | rearmHold => rfl
          | blocked => rfl
        rw [List.foldl_cons, List.foldl_cons, hc]
        refine ih _ fun ch => ?_
        rw [blockDetector_eq]
        simp only [State.withChannels, upd_get]
        split
        · have := ht ch
          revert this
          unfold Detector.open? Detector.stoodDown
          cases t.dets[ch].machine <;> cases t.dets[ch].waiting <;> simp
        · exact ht ch
    exact step channels
  unfold enterOff
  simp only
  rw [hl, hd { s with acq := .off } closed, blockAll_eq]
  unfold OffReason.dissolves stopClock stopTimer State.wentOff State.withChannels
  simp only [State.ticking, tabulate_get, followWaiting_toOff, PressureLane.resync, beq_iff_eq]

/-! ## Draining -/

/-- R36, R37: entry to DRAINING stands every detector down and then tests the drain. -/
theorem enterDraining_eq (t : DrainTarget) (s : State) : enterDraining t s = checkDrain (s.stoodDown t) := by
  unfold enterDraining
  rw [blockAll_eq]
  congr 1
  simp only [State.withChannels, State.stoodDown]
  congr 1
  exact table_ext fun i => by
    simp only [tabulate_get]
    rw [followWaiting_stoodDown _ _ _ _ (by simp)]; rfl

/-- Standing down neither opens nor closes a hit. -/
theorem stoodDown_open? (d : Detector) : d.stoodDown.open? = d.open? := by
  obtain ⟨m, _, _, _, w, _⟩ := d
  cases m <;> cases w <;> rfl

/-- R37: the drain test at entry to DRAINING. -/
theorem stoodDown_drained (t : DrainTarget) (s : State) : (s.stoodDown t).drained = true ↔ s.NothingOpen := by
  unfold State.drained
  simp only [Bool.and_eq_true, List.all_eq_true, Option.isNone_iff_eq_none]
  constructor
  · rintro ⟨a, b⟩
    refine ⟨fun ch => ?_, fun k => b k (by revert k; decide)⟩
    have := a ch (mem_channels ch)
    simp only [State.stoodDown, tabulate_get, stoodDown_open?] at this
    exact this
  · rintro ⟨a, b⟩
    refine ⟨fun ch _ => ?_, fun k _ => b k⟩
    simp only [State.stoodDown, tabulate_get, stoodDown_open?]
    exact a ch

/-- R126: the interval timer starts from zero, or stays where interval_k is OFF. -/
theorem startTimer_eq (s : State) : startTimer s = { s with timer := s.timerAtStart } := by
  unfold startTimer State.timerAtStart
  cases s.tables.setup.intervalK <;> rfl

end Sys2Proof.Machine
end

