-- ==== Sys2Proof/Laws/Requests.lean ====
section
/-! SUPPORT. A request at a quiet part: what its row's meaning comes to, given what its owner answers. -/

namespace Sys2Proof.Machine

/-- Counting a request first, or after a setting, is the same. -/
theorem setFactor_countTaken (f : Factor) (index : Nat) (reached : Option Nat) (s : State) :
    setFactor f index reached (countTaken s) = countTaken (setFactor f index reached s) := by
  unfold setFactor
  simp only
  by_cases h : s.cond.factors.get f = true
  · rw [if_pos (show (countTaken s).cond.factors.get f = true from h), if_pos h]
  · rw [if_neg (show ¬ (countTaken s).cond.factors.get f = true from h), if_neg h]
    have hn : (latchFactor f (countTaken s)).cond.notifies f = (latchFactor f s).cond.notifies f := rfl
    rw [hn]
    by_cases hc : (latchFactor f s).cond.notifies f = true
    · rw [if_pos hc, if_pos hc]
      unfold offerNotice
      by_cases h1 : (latchFactor f s).rq.notices.any (fun w => w.factor == f) = true
      · rw [if_pos h1, if_pos (show (latchFactor f (countTaken s)).rq.notices.any (fun w => w.factor == f) = true from h1)]
        rfl
      · rw [if_neg h1, if_neg (show ¬ (latchFactor f (countTaken s)).rq.notices.any (fun w => w.factor == f) = true from h1)]
        by_cases h2 : noticeCapacity ≤ (latchFactor f s).rq.notices.length
        · rw [if_pos h2, if_pos (show noticeCapacity ≤ (latchFactor f (countTaken s)).rq.notices.length from h2)]; rfl
        · rw [if_neg h2, if_neg (show ¬ noticeCapacity ≤ (latchFactor f (countTaken s)).rq.notices.length from h2)]; rfl
    · rw [if_neg hc, if_neg hc]; rfl

/-- A setting starts no frame and takes none. -/
theorem setFactor_canStart (f : Factor) (index : Nat) (reached : Option Nat) (s : State) :
    (setFactor f index reached s).canStart = s.canStart := by
  obtain ⟨fs, ns, h, -⟩ := setFactor_frame f index reached s
  rw [h]; rfl

/-- A request that arrives at a quiet part and is answered from a state in which no frame can start. -/
theorem exec_quiet {s t : State} {i : Instr} {r : Request} {code : Code} {body : List Byte} (h : s.Quiet)
    (hr : requestOf i = some r) (ha : judge r (countTaken s) = { state := countTaken t, code := code, body := body })
    (hc : t.canStart = false) : exec i s = .next (t.answered r.tag r.kind code body) := by
  have ht : takeRequest r s = t.answered r.tag r.kind code body := by
    unfold takeRequest
    rw [ha]
    rfl
  rw [exec_request hr, submit_quiet h r (by rw [ht]; exact hc), ht]

end Sys2Proof.Machine
end

