-- ==== Sys2Proof/Tests/Slice0.lean ====
section
/-! SUPPORT. Tests of the model against the manual's formats and worked examples, and a witness for the hypotheses of each
statement. Expected values come from the manual, or from the check values that its CRCs are known by. -/

namespace Sys2Proof.Tests

open Sys2Proof Sys2Proof.Machine

-- The theorems of this file are many and short: checked one after another, they need no thread each.
set_option Elab.async false

/-! ## Well-formed commands -/

theorem test_wf_loadData_refuses : Instr.wellFormed (.loadData 0 4 2 [0, 0, 0]) = false := by decide
theorem test_wf_loadData_takes : Instr.wellFormed (.loadData 0 4 2 [0, 0, 0, 1]) = true := by decide
theorem test_wf_clear_refuses : Instr.wellFormed (.clearConditions 0 []) = false := by decide
theorem test_wf_enables_refuses : Instr.wellFormed (.setEnables 0 0 1 [0]) = false := by decide
theorem test_wf_frame_refuses (n : Nat) (h : maxWireBytes < n) :
    Instr.wellFormed (.downlinkFrameEnd (List.replicate n 0)) = false := by
  simp [Instr.wellFormed, h]

/-- The table gives no row bits, so no word spells a command (log 25). -/
theorem test_no_word_spells : decodeTableWord 16 0xA516 = none ∧ State.reset.withFetchWord 16 0xA516 = State.reset :=
  ⟨rfl, rfl⟩

/-! ## Formats -/

/-- The digits 1 to 9, over which the check values of both CRCs are published. -/
def digits : List Byte := [0x31, 0x32, 0x33, 0x34, 0x35, 0x36, 0x37, 0x38, 0x39]

theorem test_crc16_check : crc16 digits = 0x29B1 := by decide +kernel
theorem test_crc32_check : crc32 digits = 0xCBF43926#32 := by decide +kernel
theorem test_escape : escapeBytes [0xA5, 0x00, 0xA6] = [0xA6, 0xE5, 0x00, 0xA6, 0xE6] := by decide

/-- R182, R202: the power-on CHANNEL entry, byte by byte. -/
theorem test_channel_layout : encodeChannel defaultChannel
    = [0, 45, 10, 0x01, 0x31, 0, 100, 0x01, 0x90, 0, 200, 0x00, 0x03, 0x0D, 0x40, 0, 0, 0, 0x01, 0x00, 0x08, 0x00, 0, 0,
       0x03, 0xE8] := by decide

/-- R181, R202: the power-on SETUP entry, byte by byte. -/
theorem test_setup_layout : encodeSetup defaultSetup
    = [0x0B, 0xB8, 0, 50, 0x03, 0xE8, 255, 4, 0, 0, 0x07, 0xD0, 0, 0, 0, 200, 0x10, 0x00, 0, 0, 0, 0, 45, 0, 4] := by decide

/-- R202: an unused PAIR slot is committed with its other fields at 0. -/
theorem test_unused_pair : decodeEntry .pair [0, 3, 4, 1, 1, 1, 1] = some (.pair none) := by decide

/-! ## Level arithmetic (the tables of sections 4.2 and 4.3) -/

theorem test_ladder_53 : ladderLevel 1500 305 = 53 := by decide +kernel
theorem test_ladder_full_scale : ladderLevel 32768 305 = 79 := by decide +kernel
theorem test_threshold_code : thrCodeOf 45 305 = 584 := by decide +kernel

/-! ## A hit, sample by sample (sections 3.6 and 4.10) -/

/-- A channel entry of the examples: pst 3, hct 4, rht 2. -/
def exampleEntry : ChannelEntry := { defaultChannel with enabled := true, pst := 3, hct := 4, rht := 2 }

/-- An ARMED part with ticks, no command waiting, whose channel 5 has the example's entry and this machine state. -/
def armedAt (tick : TestTime) (m : DetState) : State :=
  { State.reset with
    synth := .locked
    acq := .armed
    tt := tick
    dets := upd State.reset.dets 5 fun d => { Detector.given exampleEntry d with machine := m } }

/-- The hit that the sample of 700 opens at 1000. -/
def openedHit : OpenHit := openingHit (armedAt 1000 .idle) 5 700 0

/-- The samples from 1001 to 1010. -/
def exampleSamples : List Sample := [-900, 300, 1500, -1200, 100, 400, -2000, 200, 0, -100]

/-- The open hit after samples on successive ticks. -/
def followed (thr pst : Nat) : List Sample → TestTime → OpenHit → OpenHit
  | [], _, h => h
  | smp :: rest, tick, h =>
    followed thr pst rest (tick + 1) (h.update (decide (thr ≤ magnitude smp)) pst (tick + 1) smp)

/-- The hit before its last sample. -/
def lastHit : OpenHit := followed 584 3 exampleSamples 1000 openedHit

theorem test_peak_settles : (lastHit.peak, lastHit.peakTime, lastHit.counts, lastHit.countsToPeak, lastHit.lastActivity)
    = (1500, 1003, 3, 2, 1007) := by decide +kernel
theorem test_energy_sum : (lastHit.energySum, lastHit.tailSum) = (9250000, 50000) := by decide +kernel
theorem test_normal_closure : (takeSample 5 50 (armedAt 1011 (.inHit lastHit))).closed = true := by decide +kernel

/-- The hit as it closes at 1011. -/
def closedHit : ClosedHit := closedHitOf 5 exampleEntry 1011 .normal lastHit

theorem test_features : (closedHit.amplitude, closedHit.duration, closedHit.rise, closedHit.energy) = (53, 7, 3, 9250000) := by
  decide +kernel

/-- Section 13.5: the record of the hit, with hit_id 1234 and 19,850 kPa. -/
theorem test_hit_record_bytes :
    (recordOf { closedHit with hitId := 1234, pressure := 19850 } EventTag.none none none).bytes
      = [0x00, 0x00, 0x04, 0xD2, 0x05, 0x00, 0x00, 0x00, 0x00, 0x00, 0x03, 0xE8, 0, 0, 0, 7, 0, 0, 0, 3, 0, 3, 0, 2, 53,
         0x00, 0x8D, 0x24, 0xD0, 0x00, 0x00, 0x4D, 0x8A, 0x00, 0x00, 0x00] := by decide +kernel

/-- Section 5.1: rule 0 of the example rejects a hit of one tick, and keeps one closed by a lane fault. -/
theorem test_filter : let rule : FilterRule := { defaultFilter with active := true, channelMask := 0x0FFF, feature := .duration, high := 2 }
    filterRejects (Vector.replicate 8 rule) { closedHit with duration := 1 } = true
      ∧ filterRejects (Vector.replicate 8 rule) { closedHit with duration := 1, cause := .laneFault } = false := by
  decide +kernel

/-- Section 6.6: the location of the three-sensor event. -/
theorem test_location : locate 2400 3200 500 = (800, false) := by decide

/-! ## Steps -/

/-- Section 1.2: a row carries Test Time as it stands and advances it. -/
theorem test_row_time : ∃ t, exec (.sampleRow (tabulate fun _ => .missing)) (armedAt 1000000 .blocked) = .next t
    ∧ t.rowTT = 1000000 ∧ t.tt = 1000001 := ⟨_, rfl, by decide +kernel, by decide +kernel⟩

/-- R24, R172: the response to GO(STANDBY) in OFF. -/
theorem test_go_standby : ∃ t, exec (.goStandby 7) State.reset = .next t
    ∧ t.rq.responses = [{ tag := 7, kind := 2, code := .ok, body := [1, 0, 2] }] := ⟨_, rfl, by decide +kernel⟩

/-- R1: 20 ms are 20,000 µs of the link clock. -/
theorem test_lock_timer : ∃ t, exec (.goStandby 7) State.reset = .next t ∧ t.synth = .locking 20000 :=
  ⟨_, rfl, by decide +kernel⟩

/-- R20, R118: the code 1000 at power-on gain is 1000 kPa. -/
theorem test_pressure : ∃ t, exec (.pressureWord (.wellFormed 1000)) (armedAt 0 .blocked) = .next t ∧ t.hist.pMax = 1000 :=
  ⟨_, rfl, by decide +kernel⟩

/-- R27, R55: an open hit closes with ABORTED and becomes a record. -/
theorem test_abort : ∃ t, exec (.abort 1) (armedAt 1005 (.inHit lastHit)) = .next t
    ∧ t.rq.hits.map (fun q => q.record.flags.aborted) = [true] := ⟨_, rfl, by decide +kernel⟩

/-- R4, R55: an open hit closes with CLOCK_FAULT. -/
theorem test_lock_lost : ∃ t, exec .lockLost (armedAt 1005 (.inHit lastHit)) = .next t
    ∧ t.rq.hits.map (fun q => q.record.flags.clockFault) = [true] ∧ t.synth = .stopped :=
  ⟨_, rfl, by decide +kernel, by decide +kernel⟩

/-- R193: READ_TABLE of one ZONE entry. -/
theorem test_read_table : ∃ t, exec (.readTable 1 4 15 1) State.reset = .next t
    ∧ (t.rq.responses.map fun r => (r.code, r.body.take 5)) = [(.ok, [4, 15, 1, 0, 0])] := ⟨_, rfl, by decide +kernel⟩

/-- R175: a mask that names a third factor of the CLOCK group is refused. -/
theorem test_clear_range : ∃ t, exec (.clearConditions 1 (4 :: List.replicate 14 0)) State.reset = .next t
    ∧ (t.rq.responses.map Response.code) = [.range] := ⟨_, rfl, by decide +kernel⟩

/-- R167: a frame without payload is bad. -/
theorem test_bad_frame : ∃ t, exec (.downlinkFrameEnd [0x01, 0x00, 0x00, 0x00, 0x00]) State.reset = .next t
    ∧ t.link.frameErrors = 1 ∧ t.cond.factors.get .frameError = true := ⟨_, rfl, by decide +kernel, by decide +kernel⟩

/-- R201: the payload of the response ALREADY to a LOAD_ABORT. -/
theorem test_uplink_payload : (UplinkFrame.payload (.response { tag := 9, kind := 7, code := .already, body := [] }))
    = [9, 7, 1] := by decide

/-! ## Witnesses: concrete states and operands that meet the hypotheses of the statements -/

/-- The state after reset with an acquisition state and a synthesizer state. -/
def stateAt (a : Acq) (y : Synth) : State := { State.reset with acq := a, synth := y }

/-- Requests are taken at once in each of these states, whatever the acquisition state. -/
theorem witness_quiet (a : Acq) (y : Synth) : (stateAt a y).Quiet ∧ (stateAt a y).acq = a ∧ (stateAt a y).synth = y :=
  ⟨⟨⟨rfl, rfl⟩, by show 0 < 4; decide⟩, rfl, rfl⟩

theorem quiet_stateAt (a : Acq) (y : Synth) : (stateAt a y).Quiet := (witness_quiet a y).1

theorem quiet_reset : State.reset.Quiet := ⟨⟨rfl, rfl⟩, by decide⟩

/-- A part in which a load is in progress. -/
def loading (l : Load) (a : Acq) : State := { stateAt a .stopped with loader := some l }

theorem quiet_loading (l : Load) (a : Acq) : (loading l a).Quiet := ⟨⟨rfl, rfl⟩, by show 0 < 4; decide⟩

/-- A part whose committed entry of channel 5 is this one. -/
def tabled (e : ChannelEntry) (a : Acq) (y : Synth) : State :=
  { stateAt a y with tables := { defaultTables with channel := upd defaultTables.channel 5 fun _ => e } }

theorem witness_IdleStepMovesLinkClock :
    let s := loading { table := .zone, first := 0, expected := 1, staged := [], expiry := 1 } .off
    s.pending = [] ∧ ∀ (t : LinkTimer) (d : Nat), t.deadline s = some d → s.now < d := by
  refine ⟨rfl, ?_⟩
  rintro (_ | _ | _) d h
  · cases h
  · cases h; decide
  · cases h

theorem witness_LadderLevelIsLargest :
    1 * 999 < ladderVolt 0 ∧ ladderVolt 0 ≤ 1 * 1000 ∧ 100 ≤ 100 ∧ ladderVolt 100 ≤ 10000 * 10000
      ∧ ladderVolt 100 ≤ 32768 * 65535 ∧ 32767 ≤ 32768 := by decide +kernel

theorem witness_ThresholdCodeIsSmallest :
    (20 ≤ 20 ∧ ladderVolt 20 ≤ 32767 * 1) ∧ (99 ≤ 99 ∧ 32768 * 1 < ladderVolt 99) ∧ ladderVolt 99 ≤ 32767 * 65535 ∧
      defaultChannel.mode = .fixed ∧ ({ defaultChannel with mode := .floating } : ChannelEntry).mode = .floating := by
  decide +kernel

theorem witness_RequestFramesAreRead :
    (∃ r, requestOf (.loadData 0 1 4 (List.replicate 104 0)) = some r ∧ r.args.length + 1 ≤ maxRequestPayload) ∧
      State.reset.Quiet ∧
      (let r : Request := { kind := 0x10, tag := 0, args := List.replicate 106 0 }
       1 ≤ r.kind.toNat ∧ r.kind.toNat ≤ 0x10 ∧ r.args.length + 1 ≤ 107 ∧ ¬ r.LengthFits) ∧
      ∀ n : Nat,
        let s : State :=
          { State.reset with
            rq := { RecordQueues.reset with responses := List.replicate 4 { tag := 0, kind := 1, code := .ok, body := [] } }
            link := { LinkPort.reset with inbound := List.replicate n { kind := 1, tag := 0, args := [] } } }
        s.canStart = false ∧ 4 ≤ s.rq.responses.length ∧ s.link.inbound.length = n :=
  ⟨⟨_, rfl, by decide⟩, quiet_reset, ⟨by decide, by decide, by decide, by show ¬ (List.replicate 106 (0 : Byte)).length = 0; simp⟩, fun _ => ⟨rfl, by simp, by simp⟩⟩

theorem witness_TableEntriesRoundTrip :
    (Entry.setup { defaultSetup with velocity := 10000, pOffsetKpa := -250000, intervalK := some 10 }).inRange = true
      ∧ (Entry.channel { defaultChannel with thresholdDb := 99, maxDuration := 2000000, wfMax := 32768 }).inRange = true
      ∧ (Entry.pair (some { chA := 0, chB := 15, distanceMm := 65535, dtMax := 65535 })).inRange = true
      ∧ (Entry.pair none).inRange = true ∧ (Entry.filter { defaultFilter with high := 4294967295 }).inRange = true
      ∧ (Entry.zone 65535).inRange = true := by decide

/-- A record with every number at its greatest, and with every optional part. -/
def fullRecord : HitRecord :=
  { recordOf closedHit { eventId := some 1, lost := true } (some 4294967295) (some 2) with
    duration := 4294967295, rise := 4294967295, counts := 65535, countsToPeak := 65535, amplitude := 100, energy := 4294967295,
    pressure := 250000 }

/-- An event record of two members. -/
def fullEvent : EventRecord :=
  { eventId := 0, openTime := 0, first := 0, zone := 15, pressure := 250000, belowPeakLoad := true, locClamped := false,
    partialMark := true, pStale := false, c1 := 0, c2 := 15, xMm := 32768,
    members := [{ channel := 0, hitId := 0, dt := 0, amplitude := 100 }, { channel := 15, hitId := 1, dt := 65535, amplitude := 0 }] }

/-- An interval record of a locked part. -/
def fullInterval : IntervalRecord :=
  { time := 0, pressure := 0, pStale := true, pMax := 250000, phase := .unload, shedLevel := 3, acqState := 5,
    perChannel := Vector.replicate 16 { aslDb := some 100, opened := 4294967295, lost := 0 }, eventsCompleted := 0,
    holdCounts := Vector.replicate 16 65535, digest := some 0, prevReplaced := true }

theorem fullInterval_fits : fullInterval.Fits :=
  ⟨by decide, by decide, by decide, by decide, fun ch a h => by simp [fullInterval] at h; omega, fun z => by simp [fullInterval]⟩

theorem fullRecord_fits : fullRecord.Fits :=
  ⟨by decide, by decide, by decide, by decide, by decide, by decide, by decide, by rintro _ ⟨⟩; decide⟩

theorem fullEvent_fits : fullEvent.Fits :=
  ⟨by decide, by decide, by decide, by decide, by decide⟩

theorem witness_UplinkPayloads :
    fullRecord.Fits ∧ fullEvent.Fits ∧ fullInterval.Fits ∧
      ((16 : Nat) < 2 ^ 8 ∧ ∀ st, some 5 = some st → st < 2 ^ 8) ∧
      ((127 : Nat) < 2 ^ 8 ∧ (List.replicate 256 (0 : Sample)).length < 2 ^ 16) ∧
      (let s : State := { State.reset with rq := { RecordQueues.reset with tx := some (.hits [fullRecord]) } }
       s.rq.tx = some (.hits [fullRecord]) ∧ (BitVec.ofNat 8 1 :: ([fullRecord].map HitRecord.bytes).flatten : List Byte).length < 2 ^ 16) ∧
      State.reset.rq.tx = none :=
  ⟨fullRecord_fits, fullEvent_fits,
    fullInterval_fits, ⟨by decide, by rintro _ ⟨⟩; decide⟩, ⟨by decide, by rw [List.length_replicate]; decide⟩, ⟨rfl, by decide +kernel⟩, rfl⟩

/-- The segment of that hit. -/
def hitSegment : Segment :=
  { state := .filling, segId := 0, channel := 5, hitId := 0, mode := .all, firstTime := 1000, samples := [700],
    capacity := 256, blocks := [255], nextPiece := 0, cut := false }

/-- An ARMED part with one hit open and counted, 256 records counted and waiting, and one block owned. -/
def busyState : State :=
  let s := armedAt 1005 (.inHit lastHit)
  { s with
    dets := upd s.dets 5 fun d => { d with hitsOpened := 257 }
    hist := { s.hist with pressure := 250000, pMax := 250000 }
    wave := { s.wave with segments := upd s.wave.segments 63 fun _ => some hitSegment }
    rq := { s.rq with
      hits := List.replicate 256 { record := recordOf closedHit EventTag.none none none, entryTime := 0 }
      shed := 3
      counts := upd s.rq.counts 5 fun k => { k with queued := 256 } } }

theorem witness_AccountBalances : busyState.Balanced ∧ ∃ t, step busyState = .next t := by
  refine ⟨?_, _, rfl⟩
  unfold State.Balanced State.BalancedAt
  decide +kernel

theorem witness_QueuesKeepCapacity : busyState.WithinCapacity ∧ ∃ t, step busyState = .next t :=
  ⟨⟨by decide +kernel, by decide +kernel, by decide +kernel, by decide +kernel, by decide +kernel⟩, _, rfl⟩

theorem witness_ShedLevelFollowsOccupancy : busyState.ShedFollows ∧ ∃ t, step busyState = .next t :=
  ⟨⟨by decide +kernel, by decide +kernel, by decide +kernel, by decide +kernel⟩, _, rfl⟩

theorem witness_TableCrcsStayCurrent : busyState.CrcsCurrent ∧ ∃ t, step busyState = .next t := ⟨rfl, _, rfl⟩

theorem witness_BlocksHaveOneOwner : busyState.BlocksOwnedOnce ∧ ∃ t, step busyState = .next t :=
  ⟨⟨by decide +kernel, by decide +kernel⟩, _, rfl⟩

theorem witness_PeakCoversPressure : busyState.PeakCovers ∧ ∃ t, step busyState = .next t :=
  ⟨⟨by decide +kernel, by decide +kernel⟩, _, rfl⟩

theorem witness_ModesGoOnAgreeing : busyState.ModesAgree ∧ ∃ t, step busyState = .next t := by
  refine ⟨⟨?_, ?_, ?_, ?_, ?_, ?_⟩, _, rfl⟩
  · decide +kernel
  · exact ⟨fun ⟨_, h⟩ => (nomatch h), fun ⟨_, h⟩ => (nomatch h)⟩
  · decide +kernel
  · exact fun h => absurd rfl h
  · exact fun ⟨_, h⟩ => nomatch h
  · exact fun h => absurd rfl h

theorem witness_LockFreezesTables :
    let s : State :=
      { loading { table := .zone, first := 0, expected := 1, staged := [], expiry := 0 } .off with lock := some 0 }
    s.LockHolds ∧ s.lock.isSome = true ∧ s.link.inbound = [] ∧ Instr.softReset 0 ≠ .powerOnReset
      ∧ ∃ t, exec (.softReset 0) s = .next t :=
  ⟨fun _ => rfl, rfl, rfl, nofun, _, rfl⟩

theorem witness_TestTimeMovesOnlyByTicksAndResets :
    let s := stateAt .standby .locked
    s.link.inbound = [] ∧ (∃ t, exec (.sampleRow (tabulate fun _ => .missing)) s = .next t)
      ∧ (stateAt .off .stopped).synth ≠ .locked ∧ (∃ t, exec .windowExpiry s = .next t) ∧ (∃ t, exec .lockLost s = .next t)
      ∧ Instr.lockLost ≠ .powerOnReset ∧ (∀ words, Instr.lockLost ≠ .sampleRow words) ∧ (∀ tag, Instr.lockLost ≠ .zeroTime tag)
      ∧ (∀ tag, Instr.lockLost ≠ .softReset tag) ∧ (∀ wire, Instr.lockLost ≠ .downlinkFrameEnd wire)
      ∧ Instr.lockLost ≠ .windowExpiry :=
  ⟨rfl, ⟨_, rfl⟩, nofun, ⟨_, rfl⟩, ⟨_, rfl⟩, nofun, nofun, nofun, nofun, nofun, nofun⟩

theorem witness_IdentifyAnswers :
    State.reset.Quiet ∧
      (let s : State := { State.reset with rq := { RecordQueues.reset with ready := true } }
       s.link.inbound = [] ∧ s.rq.tx = none ∧ s.rq.ready = true ∧ s.rq.responses = [] ∧ s.rq.notices = [] ∧ s.rq.events = [] ∧
        s.rq.hits = [] ∧ s.timer.slot = none ∧ s.wave.sendList = []) :=
  ⟨quiet_reset, rfl, rfl, rfl, rfl, rfl, rfl, rfl, rfl, rfl⟩

theorem nothingOpen_stateAt (a : Acq) (y : Synth) : (stateAt a y).NothingOpen := ⟨by show ∀ ch : Channel, State.reset.dets[ch].open? = none; decide, by show ∀ k : Fin 4, State.reset.asm.contexts[k] = none; decide⟩

/-- Quiet states of every acquisition state, with and without something open in ARMED. The same states serve GO(OFF), ABORT and
ZERO_TIME. -/
theorem witness_GoStandbyAnswers :
    (∀ a y, (stateAt a y).Quiet ∧ (stateAt a y).acq = a ∧ (stateAt a y).NothingOpen) ∧
      (let s := armedAt 1005 (.inHit lastHit)
       s.Quiet ∧ s.acq = .armed ∧ ¬ s.NothingOpen) :=
  ⟨fun a y => ⟨quiet_stateAt a y, rfl, nothingOpen_stateAt a y⟩, ⟨⟨rfl, rfl⟩, by decide⟩, rfl,
    fun h => absurd (h.hits 5) (by decide +kernel)⟩

theorem witness_GoArmedAnswers :
    (∀ a y, let s := tabled exampleEntry a y
      s.Quiet ∧ s.acq = a ∧ s.tables.channel[(5 : Channel)].enabled = true ∧ s.tables.channel[(5 : Channel)].role = .data) ∧
      (let s := tabled { exampleEntry with role := .guard } .off .stopped
       s.Quiet ∧ ∀ ch : Channel, s.tables.channel[ch].enabled = true → s.tables.channel[ch].role = .guard) :=
  ⟨fun _ _ => ⟨⟨⟨rfl, rfl⟩, by show 0 < 4; decide⟩, rfl, rfl, rfl⟩, ⟨⟨rfl, rfl⟩, by decide⟩, by decide +kernel⟩

theorem witness_GoOffAnswers :
    let s := stateAt (.learning 0 1) .locked
    s.Quiet ∧ (∃ n p, s.acq = .learning n p) ∧ ∀ ch : Channel, s.dets[ch].open? = none :=
  ⟨quiet_stateAt _ _, ⟨0, 1, rfl⟩, (nothingOpen_stateAt _ _).hits⟩

theorem witness_AbortForcesOff : (armedAt 1005 (.inHit lastHit)).Quiet := ⟨⟨rfl, rfl⟩, by decide⟩

theorem witness_ZeroTimeAnswers :
    (stateAt .standby .locked).Quiet ∧ ((stateAt .armed .locked).Quiet ∧ (stateAt .armed .locked).acq ≠ .standby) :=
  ⟨quiet_stateAt _ _, quiet_stateAt _ _, nofun⟩

/-! ### Loads -/

/-- A load of one ZONE entry that is expected. -/
def zoneLoad (expected : Nat) : Load := { table := .zone, first := 15, expected := expected, staged := [], expiry := 0 }

theorem witness_LoadBeginAnswers :
    State.reset.Quiet ∧ State.reset.loader = none ∧ 5 ≤ (5 : Byte).toNat ∧ (4 : Byte).toNat = TableId.zone.number ∧
      (loading (zoneLoad 1) .off).loader.isSome = true ∧ TableId.zone.entries ≤ (16 : Byte).toNat ∧ 16 < (17 : Byte).toNat ∧
      ((15 : Byte).toNat < TableId.zone.entries ∧ (0 : Byte).toNat = 0) ∧
      ((1 : Byte).toNat ≤ 16 ∧ (15 : Byte).toNat + (1 : Byte).toNat ≤ TableId.channel.entries) ∧
      (let s : State := { State.reset with lock := some 0 }
       s.Quiet ∧ s.lock.isSome = true) ∧
      (let s := stateAt (.learning 0 1) .locked
       s.Quiet ∧ ¬ (TableId.channel = .zone ∨ s.acq = .off ∨ s.acq = .standby ∨ (TableId.channel = .channel ∧ s.acq = .armed))) :=
  ⟨quiet_reset, rfl, by decide, rfl, rfl, by decide, by decide, by decide, by decide, ⟨⟨⟨rfl, rfl⟩, by decide⟩, rfl⟩,
    quiet_stateAt _ _, by decide⟩

theorem spells_zone : Spells .zone [0, 1] (.zone 1) := ⟨by decide, rfl, .inl (by decide)⟩

/-- Bytes whose used mark is 2 spell no PAIR slot. -/
theorem pair_not_spelled (parts : List (List Byte × Entry)) (h : ∀ p ∈ parts, Spells .pair p.1 p.2) :
    parts.flatMap Prod.fst ≠ [2, 0, 1, 0, 1, 0, 1] := by
  intro hf
  cases parts with
  | nil => cases hf
  | cons p ps =>
    have hp := h p (by simp)
    obtain ⟨bs, e⟩ := p
    have hb : bs.head? = some 0 ∨ bs.head? = some 1 := by
      rcases hp.bytes with hb | ⟨_, _, hb⟩
      · have ht := hp.table
        cases e with
        | pair o => cases o <;> (simp only at hb; subst hb)
                    · exact .inl rfl
                    · exact .inr rfl
        | _ => simp [Entry.table] at ht
      · exact .inl hb
    cases bs with
    | nil => simp at hb
    | cons b bs =>
      simp only [List.flatMap_cons, List.cons_append, List.cons.injEq] at hf
      obtain ⟨rfl, _⟩ := hf
      revert hb; simp

theorem witness_LoadDataStages :
    (∀ l a, (loading l a).Quiet ∧ (loading l a).loader = some l) ∧
      (State.reset.Quiet ∧ State.reset.loader = none) ∧
      ((4 : Byte).toNat = TableId.zone.number ∧ [0, 1].length = (1 : Byte).toNat * TableId.zone.entrySize
        ∧ (zoneLoad 0).expected < (zoneLoad 0).staged.length + (1 : Byte).toNat) ∧
      ((∀ p ∈ [(([0, 1] : List Byte), Entry.zone 1)], Spells .zone p.1 p.2)
        ∧ [(([0, 1] : List Byte), Entry.zone 1)].flatMap Prod.fst = [0, 1]
        ∧ (zoneLoad 2).staged.length + (1 : Byte).toNat < (zoneLoad 2).expected) ∧
      (∀ parts : List (List Byte × Entry), (∀ p ∈ parts, Spells .pair p.1 p.2) →
        parts.flatMap Prod.fst ≠ [2, 0, 1, 0, 1, 0, 1]) :=
  ⟨fun l a => ⟨quiet_loading l a, rfl⟩, ⟨quiet_reset, rfl⟩, by decide,
    ⟨by simpa using spells_zone, rfl, by decide⟩, pair_not_spelled⟩

/-- The premises of a load of one entry that ends: the part is quiet, the load is in progress, the bytes spell the entry. -/
theorem witness_LoadDataCommits_premises (l : Load) (a : Acq) (e : Entry) (hv : e.inRange = true) (ht : e.table = l.table) (hn : l.staged = [])
    (he : l.expected = 1) :
    let parts := [(encodeEntry e, e)]
    (loading l a).Quiet ∧ parts.length = (1 : Byte).toNat ∧ (∀ p ∈ parts, Spells l.table p.1 p.2) ∧
      parts.flatMap Prod.fst = encodeEntry e ∧ (loading l a).loader = some l ∧ l.staged.length + (1 : Byte).toNat = l.expected :=
  ⟨quiet_loading l a, rfl, by simpa using (⟨hv, ht, .inl rfl⟩ : Spells l.table _ _), by simp, rfl, by simp [hn, he]⟩

/-- A load of one entry. -/
def oneEntry (t : TableId) : Load := { table := t, first := 0, expected := 1, staged := [], expiry := 0 }

/-- A load that commits in every state, one that the state refuses, one that fails a check at the last entry, one that changes interval_k,
and a CHANNEL load in ARMED that fails no check. -/
theorem witness_LoadDataCommits :
    (∀ a, Loadable .zone a) ∧ (∀ t, ∀ d ∈ checksOf .zone, ∀ i, ¬ d.FailsAt t i) ∧ ¬ Loadable .setup .armed ∧
      (Loadable .filter .off ∧
        Invalid .filter (defaultTables.putEntries .filter 7 [.filter { defaultFilter with low := 1 }]) .filterOrder 7) ∧
      (let tables := defaultTables.putEntries .setup 0 [.setup { defaultSetup with intervalK := some 10 }]
       Loadable .setup .standby ∧ (∀ d ∈ checksOf .setup, ∀ i, ¬ d.FailsAt tables i) ∧
        tables.setup.intervalK ≠ defaultTables.setup.intervalK ∧ tables.setup.intervalK = some 10) ∧
      (Loadable .channel .armed ∧ ∀ d ∈ checksOf .channel, ∀ i,
        ¬ d.FailsAt (defaultTables.putEntries .channel 0 [.channel exampleEntry]) i) :=
  ⟨fun _ => .inl rfl, nofun, by simp [Loadable],
    ⟨.inr (.inl rfl), ((firstFailure_iff _ _).2 .filterOrder 7).mp (by decide +kernel)⟩,
    ⟨.inr (.inr (.inl rfl)), nofun, by decide, by decide⟩,
    .inr (.inr (.inr ⟨rfl, rfl⟩)), (firstFailure_iff _ _).1.mp (by decide +kernel)⟩

theorem witness_LoadsAreAbandoned :
    (loading (zoneLoad 1) .off).Quiet ∧ (loading (zoneLoad 1) .off).loader.isSome = true ∧ State.reset.loader = none ∧
      (let s : State := { loading { zoneLoad 1 with expiry := 20000 } (.starting .armed .locking) with synth := .locking 20000 }
       s.AtRest ∧ s.loader = some { zoneLoad 1 with expiry := 20000 } ∧ ∀ e, s.synth = .locking e → 20000 ≤ e) :=
  ⟨quiet_loading _ _, rfl, rfl, ⟨rfl, rfl⟩, rfl, fun _ h => by cases h; decide⟩

theorem witness_ReadTableAnswers :
    State.reset.Quiet ∧ 5 ≤ (5 : Byte).toNat ∧ (2 : Byte).toNat = TableId.pair.number ∧ (0 : Byte).toNat < 1 ∧ 4 < (5 : Byte).toNat ∧
      TableId.pair.entries < (61 : Byte).toNat + (4 : Byte).toNat ∧ (60 : Byte).toNat + (4 : Byte).toNat ≤ TableId.pair.entries :=
  ⟨quiet_reset, by decide, rfl, by decide, by decide, by decide, by decide⟩

theorem witness_LockRequestsAnswer :
    (∀ a, let s : State := { stateAt a .stopped with lock := some 5 }
      s.Quiet ∧ s.lock = some 5 ∧ s.acq = a) ∧
      (State.reset.Quiet ∧ State.reset.lock = none ∧ ∀ l, State.reset.loader = some l → l.table = .zone) ∧
      ((loading (oneEntry .filter) .off).Quiet ∧ ∃ l, (loading (oneEntry .filter) .off).loader = some l ∧ l.table ≠ .zone) :=
  ⟨fun _ => ⟨⟨⟨rfl, rfl⟩, by show 0 < 4; decide⟩, rfl, rfl⟩, ⟨quiet_reset, rfl, nofun⟩, quiet_loading _ _, _, rfl, nofun⟩

/-! ### Conditions, phase, link -/

theorem witness_StatusReadAnswers :
    State.reset.Quiet ∧ 4 ≤ (4 : Byte).toNat ∧
      (let s : State := { State.reset with
        now := 4294967294
        rq := { RecordQueues.reset with hits := [{ record := recordOf closedHit EventTag.none none none, entryTime := 0 }] } }
       s.Quiet ∧ ∀ q rest, s.rq.hits = q :: rest → s.now - q.entryTime < 4294967295) :=
  ⟨quiet_reset, by decide, ⟨⟨rfl, rfl⟩, by decide⟩, by rintro _ _ ⟨⟩; decide⟩

theorem witness_ClearConditionsAnswers :
    State.reset.Quiet ∧ ([] : List Byte).length ≠ 15 ∧ (∀ m : FactorBits, m.layout ≠ 4 :: List.replicate 14 0) ∧
      ({ FactorBits.none with clock := 3 } : FactorBits).layout = 3 :: List.replicate 14 0 := by
  refine ⟨quiet_reset, by decide, ?_, by decide⟩
  intro m h
  have hc : BitVec.ofNat 8 (m.clock.toNat / 256 ^ 0) = 4 := Option.some.inj (congrArg List.head? h)
  have h4 := congrArg BitVec.toNat hc
  have hlt := m.clock.isLt
  simp at h4
  omega

theorem witness_SetEnablesAnswers :
    State.reset.Quiet ∧ 7 ≤ (7 : Byte).toNat ∧ 2 ≤ (2 : Byte).toNat ∧
      ((0 : Byte).toNat = Group.clock.number ∧ ∀ m : FactorBits, groupField .clock m ≠ 1 :: List.replicate 7 0) ∧
      ((6 : Byte).toNat = Group.link.number ∧ (1 : Byte).toNat < 2 ∧
        groupField .link { FactorBits.none with link := 3 } = List.replicate 7 0 ++ [3]) :=
  ⟨quiet_reset, by decide, by decide,
    ⟨rfl, fun _ h => absurd (show some (0 : Byte) = some 1 from congrArg List.head? h) (by decide)⟩, rfl, by decide, by decide⟩

theorem witness_PhaseAndPeakRequestsAnswer :
    State.reset.Quiet ∧ 3 ≤ (3 : Byte).toNat ∧ ((0 : Byte).toNat = Phase.ramp.number ∧ State.reset.hist.phase = .ramp) ∧
      ((1 : Byte).toNat = Phase.hold.number ∧ State.reset.hist.phase ≠ .hold) ∧
      ((2 : Byte).toNat = Phase.unload.number ∧ State.reset.hist.phase ≠ .unload) :=
  ⟨quiet_reset, by decide, by decide, by decide, by decide⟩

theorem witness_SoftResetAnswers : (armedAt 1005 (.inHit lastHit)).Quiet := ⟨⟨rfl, rfl⟩, by decide⟩

/-- LINK.FRAME_ERROR clear, clear with both enables on, and set; and frames that are bad for each reason. -/
theorem witness_BadFramesAreCounted :
    (State.reset.AtRest ∧ goodRequest [] = none ∧ State.reset.cond.factors.get .frameError = false
      ∧ State.reset.cond.enables.get .frameError = false) ∧
      (let s : State := { State.reset with cond := { Conditions.reset with enables := FactorBits.none.on .frameError, groupEnables := 64 } }
       s.AtRest ∧ s.cond.factors.get .frameError = false ∧ s.cond.enables.get .frameError = true ∧
        s.cond.groupEnables.getLsbD 6 = true ∧ (∀ n ∈ s.rq.notices, n.factor ≠ .frameError) ∧ s.rq.notices.length < 16) ∧
      (let s : State := { State.reset with cond := { Conditions.reset with factors := FactorBits.none.on .frameError } }
       s.AtRest ∧ s.cond.factors.get .frameError = true) ∧
      (107 < (List.replicate 108 (0 : Byte)).length ∧ (List.replicate 108 (0 : Byte)).length < 65536 ∧ 0x10 < (0x11 : Byte).toNat
        ∧ 0 ≠ crc16 (checkedBytes 1 [0]) ∧ (0 : Nat) < (escapeBytes (checkedBytes 1 [0] ++ beBytes 2 0)).length) := by
  refine ⟨⟨⟨rfl, rfl⟩, by decide, by decide, by decide⟩, ⟨⟨rfl, rfl⟩, by decide, by decide, by decide, nofun, by decide⟩,
    ⟨⟨rfl, rfl⟩, by decide⟩, ?_⟩
  decide +kernel

/-- Four responses wait, and seven or eight requests do. -/
theorem witness_RequestsWaitOrAreDropped (n : Nat) :
    let s : State :=
      { State.reset with
        rq := { RecordQueues.reset with responses := List.replicate 4 { tag := 0, kind := 1, code := .ok, body := [] } }
        link := { LinkPort.reset with inbound := List.replicate n { kind := 1, tag := 0, args := [] } } }
    (∃ r, requestOf (.identify 0) = some r) ∧ s.canStart = false ∧ 4 ≤ s.rq.responses.length ∧ s.link.inbound.length = n :=
  ⟨⟨_, rfl⟩, rfl, by simp, by simp⟩

/-! ### Clock, ticks and expiries -/

theorem witness_LockAchievedStartsTicks :
    (∀ e, State.reset.synth ≠ .locking e) ∧
      (∀ a, (stateAt a (.locking 20000)).AtRest ∧ (stateAt a (.locking 20000)).acq = a) :=
  ⟨nofun, fun a => ⟨(quiet_stateAt a _).toAtRest, rfl⟩⟩

theorem witness_LockTimerExpiryFailsStart :
    let s : State := { loading { zoneLoad 1 with expiry := 20000 } (.starting .armed .locking) with synth := .locking 20000 }
    s.AtRest ∧ s.synth = .locking 20000 ∧ s.acq = .starting .armed .locking ∧ (∀ ch : Channel, s.dets[ch].open? = none) ∧
      ∀ l, s.loader = some l → 20000 ≤ l.expiry :=
  ⟨⟨rfl, rfl⟩, rfl, rfl, by decide, fun _ h => by cases h; decide⟩

theorem witness_LockLostForcesOff :
    State.reset.synth ≠ .locked ∧ (armedAt 1005 (.inHit lastHit)).AtRest ∧ (armedAt 1005 (.inHit lastHit)).synth = .locked :=
  ⟨nofun, ⟨rfl, rfl⟩, rfl⟩

/-- A part with ticks and every lane OFF, in each state of the statement. -/
theorem witness_RowWithoutSamples :
    ∀ a ∈ ([.off, .standby, .armed, .starting .armed .locking, .starting .armed (.syncing 3999),
        .starting .standby (.settling 0 2000), .learning 0 1] : List Acq),
      (stateAt a .locked).AtRest ∧ (stateAt a .locked).NothingDue ∧ (∀ ch : Channel, (stateAt a .locked).lanes[ch].state = .off)
        ∧ ∀ t, a ≠ .draining t := by
  intro a ha
  refine ⟨(quiet_stateAt a _).toAtRest, ?_, by show ∀ ch : Channel, State.reset.lanes[ch].state = .off; decide, ?_⟩
  · fin_cases ha <;>
      exact ⟨by decide +kernel, by decide +kernel, by decide +kernel, rfl, rfl, rfl, rfl, rfl, by decide +kernel⟩
  · fin_cases ha <;> simp

theorem witness_RowStampsAndCounts :
    let s := armedAt 1005 (.inHit lastHit)
    s.AtRest ∧ s.synth = .locked ∧ s.NothingDue ∧ ∀ d, s.acq ≠ .draining d :=
  ⟨⟨rfl, rfl⟩, rfl, ⟨by decide +kernel, by decide +kernel, by decide +kernel, rfl, rfl, rfl, rfl, rfl, by decide +kernel⟩, nofun⟩

/-- A rearm hold with no tick left, with and without a waiting entry, a lane whose settle period has ended, and one whose search has
lasted 4000 ticks. -/
theorem witness_ChannelExpiries :
    (let s := armedAt 0 .rearmHold
     s.AtRest ∧ s.dets[(5 : Channel)].machine = .rearmHold ∧ s.dets[(5 : Channel)].rearm = 0 ∧ s.dets[(5 : Channel)].waiting = none) ∧
      (let s : State := { stateAt .armed .locked with dets := upd State.reset.dets 5 fun d => { d with machine := .rearmHold, waiting := some defaultChannel } }
       s.AtRest ∧ s.dets[(5 : Channel)].rearm = 0 ∧ s.dets[(5 : Channel)].waiting = some defaultChannel) ∧
      (let s : State := { stateAt .armed .locked with lanes := upd State.reset.lanes 5 fun l => { l with state := .settling } }
       s.AtRest ∧ s.lanes[(5 : Channel)].state = .settling ∧ s.lanes[(5 : Channel)].settleLength ≤ s.lanes[(5 : Channel)].settleTicks) ∧
      (let s : State := { stateAt .armed .locked with lanes := upd State.reset.lanes 5 fun l => { l with state := .syncing, syncTicks := 4000 } }
       s.AtRest ∧ s.lanes[(5 : Channel)].state = .syncing ∧ 4000 ≤ s.lanes[(5 : Channel)].syncTicks) ∧
      (State.reset.dets[(5 : Channel)].machine ≠ .rearmHold ∧ State.reset.lanes[(5 : Channel)].state = .off) :=
  ⟨⟨⟨rfl, rfl⟩, rfl, rfl, rfl⟩, ⟨⟨rfl, rfl⟩, rfl, rfl⟩, ⟨⟨rfl, rfl⟩, rfl, by decide⟩, ⟨⟨rfl, rfl⟩, rfl, by decide⟩,
    by decide, by decide⟩

/-- The end of SYNCING with a declared lane, without one, and with a search that times out on the same tick. -/
theorem witness_StartingSubstepsEnd :
    (let s := stateAt (.starting .armed (.syncing 4000)) .locked
     s.AtRest ∧ (∀ ch : Channel, ¬ (s.lanes[ch].state = .syncing ∧ 4000 ≤ s.lanes[ch].syncTicks)) ∧
      (∀ ch : Channel, s.dets[ch].open? = none) ∧ ¬ ∃ ch : Channel, s.tables.channel[ch].enabled = true ∧
        s.tables.channel[ch].role = .data ∧ s.lanes[ch].declared = true) ∧
      (let s : State :=
        { tabled exampleEntry (.starting .armed (.syncing 4000)) .locked with
          lanes := upd (upd State.reset.lanes 5 fun l => { l with declared := true }) 6 fun l =>
            { l with state := .syncing, syncTicks := 4000 } }
       s.AtRest ∧ (∃ ch : Channel, s.lanes[ch].state = .syncing ∧ 4000 ≤ s.lanes[ch].syncTicks) ∧
        ∃ ch : Channel, s.tables.channel[ch].enabled = true ∧ s.tables.channel[ch].role = .data ∧ s.lanes[ch].declared = true) ∧
      (stateAt (.starting .standby (.settling 0 0)) .locked).AtRest ∧ (stateAt (.starting .armed (.settling 0 0)) .locked).AtRest :=
  ⟨⟨⟨rfl, rfl⟩, by decide +kernel, by decide +kernel, by decide +kernel⟩, ⟨⟨rfl, rfl⟩, by decide +kernel, by decide +kernel⟩,
    ⟨rfl, rfl⟩, rfl, rfl⟩

theorem witness_LearningEndArms :
    (let s := stateAt (.learning 0 1) .locked
     s.acq = .learning 0 1 ∧ 0 < 1) ∧
      (let s := stateAt (.learning 1 1) .locked
       s.AtRest ∧ s.acq = .learning 1 1 ∧ s.dets[(0 : Channel)].learnCover = true) ∧
      (let s : State := { stateAt (.learning 1 1) .locked with dets := upd State.reset.dets 0 fun d => { d with learnCount := 1, learnSum := 9 } }
       s.AtRest ∧ s.dets[(0 : Channel)].learnCover = true ∧ s.dets[(0 : Channel)].learnCount ≠ 0) :=
  ⟨⟨rfl, by decide⟩, ⟨⟨rfl, rfl⟩, rfl, rfl⟩, ⟨rfl, rfl⟩, rfl, by decide⟩

/-- The table of one pair of CH0 and CH1, 2400 mm apart. -/
def pairTables : Tables :=
  { defaultTables with pair := upd defaultTables.pair 0 fun _ => some { chA := 0, chB := 1, distanceMm := 2400, dtMax := 1000 } }

/-- A member of channel 0 or 1, open or parked. -/
def memberOf (ch : Channel) (parked : Bool) : Member :=
  { channel := ch, hitId := BitVec.ofNat 32 ch.val, arrival := 100, dt := 0,
    parked := if parked then some { closedHit with channel := ch, hitId := BitVec.ofNat 32 ch.val } else none }

/-- A context of channel 0 whose window ended at 1100. -/
def endedContext (members : List Member) : Context :=
  { settling := false, first := 0, openTime := 100, windowEnd := 1100, zone := 2, pressure := 0, pStale := false, pMax := 0,
    partialMark := false, members := members }

/-- A part with that context, read at this Test Time. -/
def collecting (tick : TestTime) (members : List Member) (phase : Phase) (shed : Fin 4) (events : List EventRecord) : State :=
  let s := stateAt .armed .locked
  { s with
    tt := tick
    tables := pairTables
    hist := { s.hist with phase := phase }
    rq := { s.rq with shed := shed, events := events }
    asm := { s.asm with contexts := upd s.asm.contexts 3 fun _ => some (endedContext members) } }

/-- What the two statements about windows ask of a state: the window of context 3 alone has ended. -/
theorem witness_WindowExpiry_premises (members : List Member) (phase : Phase) (shed : Fin 4) (events : List EventRecord) :
    let s := collecting 1101 members phase shed events
    let c := endedContext members
    s.AtRest ∧ s.synth = .locked ∧ s.asm.contexts[(3 : Fin 4)] = some c ∧ c.members = members ∧ c.settling = false ∧
      ticksBetween c.windowEnd c.openTime < ticksBetween s.tt c.openTime ∧
      ∀ (j : Fin 4) (b : Context), s.asm.contexts[j] = some b → j = 3 := by
  refine ⟨⟨rfl, rfl⟩, rfl, rfl, rfl, rfl, by show ticksBetween (1100 : TestTime) 100 < ticksBetween (1101 : TestTime) 100; decide, ?_⟩
  intro j b h
  fin_cases j
  · cases h
  · cases h
  · cases h
  · rfl

theorem witness_WindowExpiryJudges :
    (∃ m : Member, [memberOf 0 true] = [m] ∧ m.parked.isSome = true) ∧
      ((memberOf 0 false).parked = none ∧ WaveStore.reset.find 0 0 = none) ∧
      (2 ≤ [memberOf 0 true, memberOf 1 false].length ∧ ∃ m ∈ [memberOf 0 true, memberOf 1 false], m.parked = none) ∧
      (∀ (j : Fin 4) (c : Context), (collecting 1100 [] .ramp 0 []).asm.contexts[j] = some c →
        ¬ ticksBetween c.windowEnd c.openTime < ticksBetween (collecting 1100 [] .ramp 0 []).tt c.openTime) := by
  refine ⟨⟨_, rfl, rfl⟩, ⟨rfl, by decide +kernel⟩, ⟨by decide, memberOf 1 false, by simp, rfl⟩, ?_⟩
  intro j c h
  fin_cases j
  · cases h
  · cases h
  · cases h
  · cases h; decide

/-- The drain test's three cases. -/
theorem witness_DrainTested :
    (∀ d, (stateAt .armed .locked).acq ≠ .draining d) ∧
      ((stateAt (.draining .standby) .locked).acq = .draining .standby ∧ (stateAt (.draining .standby) .locked).NothingOpen) ∧
      ((stateAt (.draining .off) .locked).acq = .draining .off ∧ (stateAt (.draining .off) .locked).NothingOpen) :=
  ⟨nofun, ⟨rfl, nothingOpen_stateAt _ _⟩, rfl, nothingOpen_stateAt _ _⟩

/-- R3, R99: a window expiry that completes a drain to OFF lets its tick complete. -/
theorem test_drain_at_window_expiry :
    let s := collecting 1101 [memberOf 0 true] .ramp 0 []
    ∃ t, exec .windowExpiry { s with acq := .draining .off } = .next t ∧ t.acq = .off ∧ t.synth = .stopped ∧ t.tt = 1102 ∧
      t.rq.hits.length = 1 :=
  ⟨_, rfl, by decide +kernel, by decide +kernel, by decide +kernel, by decide +kernel⟩

/-- The members are closed and paired; the queues, levels and phases of each clause stand in `collecting`. -/
theorem witness_WindowExpiryCompletes :
    (∀ m ∈ [memberOf 0 true, memberOf 1 true], m.parked.isSome = true) ∧
      (pairTables.pairOf 0 1 = some { chA := 0, chB := 1, distanceMm := 2400, dtMax := 1000 }) ∧
      (let s := collecting 1101 [memberOf 0 true, memberOf 1 true] .hold 1 []
       s.rq.events.length < 32 ∧ s.rq.shed.val < 2 ∧ s.rq.hits.length + 2 ≤ 256 ∧ s.hist.phase = .hold ∧
        s.hist.holdCounts[(2 : Zone)] < 65535) ∧
      (collecting 1101 [memberOf 0 true, memberOf 1 true] .ramp 2 []).hist.phase ≠ .hold ∧
      ∀ e : EventRecord, 32 ≤ (collecting 1101 [memberOf 0 true, memberOf 1 true] .ramp 2 (List.replicate 32 e)).rq.events.length := by
  refine ⟨by decide +kernel, by decide +kernel, by decide +kernel, by decide, fun e => ?_⟩
  show 32 ≤ (List.replicate 32 e).length
  simp

/-- An interval that has ended, with Test Time one past the last row's stamp, and after a ZERO_TIME. -/
theorem witness_IntervalExpiryBuildsRecord :
    (let s : State := { stateAt .standby .locked with timer := { IntervalTimer.reset with period := some 2000, ticks := 2000 }, tt := 1 }
     s.AtRest ∧ s.timer.period = some 2000 ∧ 2000 ≤ s.timer.ticks ∧ s.tt = s.rowTT + 1 ∧ ({ s with tt := 0 } : State).tt ≠ s.rowTT + 1) ∧
      (∀ p, State.reset.timer.period = some p → State.reset.timer.ticks < p) :=
  ⟨⟨⟨rfl, rfl⟩, rfl, by decide, by decide, by decide⟩, nofun⟩

/-- A slot that runs, a filled one, one that ends with the forty-ninth and one that ends with the fiftieth missing word. -/
theorem witness_PressureLaneEvents :
    ((stateAt .standby .locked).AtRest ∧ (stateAt .standby .locked).pl.slotFilled = false ∧ State.reset.synth ≠ .locked) ∧
      (∀ run : Nat, ∀ filled : Bool,
        let s : State := { stateAt .standby .locked with pl := { PressureLane.reset with slotTicks := 1000, slotFilled := filled, missingRun := run } }
        s.AtRest ∧ s.synth = .locked ∧ 1000 ≤ s.pl.slotTicks ∧ s.pl.slotFilled = filled ∧ s.pl.missingRun = run ∧ s.pl.state ≠ .stale) ∧
      (48 + 1 < 50 ∧ 50 ≤ 49 + 1) :=
  ⟨⟨⟨rfl, rfl⟩, rfl, nofun⟩, fun _ _ => ⟨⟨rfl, rfl⟩, rfl, by show 1000 ≤ 1000; decide, rfl, rfl, nofun⟩, by decide⟩

/-! ### Uplink -/

/-- A part whose head record has waited flush_us. -/
def waitingHit : State :=
  { State.reset with now := 2000, rq := { RecordQueues.reset with
      hits := [{ record := recordOf closedHit EventTag.none none none, entryTime := 0 }], ready := true } }

/-- A part whose send list holds one segment of this length. -/
def sendingState (length : Nat) : State :=
  { State.reset with wave := { WaveStore.reset with
      sendList := [0]
      segments := upd WaveStore.reset.segments 0 fun _ => some
        { hitSegment with state := .complete, samples := List.replicate length 0, capacity := 512, blocks := [0, 1] } } }

theorem witness_SchedulerOrder :
    State.reset.link.inbound = [] ∧ State.reset.rq.tx = none ∧ State.reset.rq.ready = false ∧
      (let s : State := { State.reset with rq := { RecordQueues.reset with tx := some (.notices []), ready := true } }
       s.rq.tx.isSome = true ∧ s.rq.ready = true) ∧
      (waitingHit.link.inbound = [] ∧ waitingHit.rq.responses = [] ∧ waitingHit.rq.notices = [] ∧ waitingHit.rq.events = [] ∧
        ∃ q rest, waitingHit.rq.hits = q :: rest ∧ waitingHit.tables.setup.flushUs ≤ waitingHit.now - q.entryTime) ∧
      (∀ n, (sendingState n).rq.hits = [] ∧ (sendingState n).timer.slot = none ∧ (sendingState n).wave.sendList = [0] ∧
        ∃ g, (sendingState n).wave.segments[(0 : Fin 64)] = some g ∧ g.samples.length = n) ∧
      (256 ≤ 256 * (0 + 1) ∧ 256 * (0 + 1) < 257) :=
  ⟨rfl, rfl, rfl, ⟨rfl, rfl⟩, ⟨rfl, rfl, rfl, rfl, _, _, rfl, by decide⟩,
    fun n => ⟨rfl, rfl, rfl, _, rfl, by show (List.replicate n 0).length = n; simp⟩, by decide⟩

theorem witness_FlushExpirySends :
    State.reset.rq.hits = [] ∧
      (waitingHit.link.inbound = [] ∧ (∀ e, waitingHit.synth = .locking e → 2000 ≤ e) ∧
        (∀ l, waitingHit.loader = some l → 2000 ≤ l.expiry) ∧ waitingHit.rq.tx = none ∧ waitingHit.rq.ready = true) ∧
      (let s : State := { waitingHit with rq := { waitingHit.rq with ready := false } }
       s.canStart = false ∧ s.rq.hits ≠ []) :=
  ⟨rfl, ⟨rfl, nofun, nofun, rfl, rfl⟩, rfl, nofun⟩

/-! ### Detectors, records, events, lanes, waveforms -/

theorem witness_OpeningSetsTheHit :
    let s := armedAt 1000 .idle
    s.dets[(5 : Channel)].machine = .idle ∧ magnitude 583 < s.dets[(5 : Channel)].thrCode ∧
      s.dets[(5 : Channel)].thrCode ≤ magnitude 584 ∧ s.nextHit = some 0 ∧ s.dets[(5 : Channel)].active.wfMode = .off ∧
      s.wave.find 5 0 = none := by decide +kernel

/-- The last sample of the example closes the hit, the one before leaves it open, and a hit of max_duration ticks is truncated. -/
theorem witness_ClosureFollowsItsTests :
    (armedAt 1011 (.inHit lastHit)).dets[(5 : Channel)].machine = .inHit lastHit ∧
      exampleEntry.hct ≤ ticksBetween 1011 (lastHit.update false 3 1011 50).lastActivity ∧
      ¬ exampleEntry.hct ≤ ticksBetween 1010 (lastHit.update false 3 1010 50).lastActivity ∧
      exampleEntry.maxDuration ≤ ticksBetween 201000 lastHit.arrival ∧
      ¬ exampleEntry.hct ≤ ticksBetween 201000 (lastHit.update true 3 201000 600).lastActivity ∧
      (let s : State := { armedAt 1011 (.inHit lastHit) with
        acq := .draining .standby, dets := upd State.reset.dets 5 fun d => { d with machine := .inHit lastHit, waiting := some exampleEntry } }
       s.acq ≠ .armed ∧ s.dets[(5 : Channel)].machine = .inHit lastHit ∧ s.dets[(5 : Channel)].waiting = some exampleEntry) ∧
      (min (3 + 1) 65535 < 5 ∧ 4 ≤ min (3 + 1) 65535) := by decide +kernel

theorem witness_HitMeasurementsKeepTheirOrder :
    openedHit.Measured 1000 ∧ 584 ≤ openedHit.peak ∧ ticksBetween 1000 openedHit.arrival + 1 < 2 ^ 48 ∧ openedHit.tailSum = 0 ∧
      (∀ smp, ([-900] : List Sample).getLast? = some smp → 584 ≤ magnitude smp) ∧
      (∀ smp ∈ ([300, 400] : List Sample), magnitude smp < 584) ∧ openedHit.openingLevel ≤ 100 :=
  ⟨⟨by decide +kernel, by decide +kernel, by decide +kernel, by decide +kernel, by decide +kernel⟩, by decide +kernel,
    by rw [show ticksBetween 1000 openedHit.arrival = 0 by decide +kernel]; norm_num, by decide +kernel,
    by rintro _ ⟨⟩; decide, by simp only [List.forall_mem_cons]; exact ⟨by decide, by decide, nofun⟩, by decide +kernel⟩

theorem witness_FiltersJudgeClosedHits :
    State.reset.wave.find closedHit.channel closedHit.hitId = none ∧
      (∀ k : Fin 4, State.reset.asm.contexts[k] = none) ∧ filterRejects State.reset.tables.filter closedHit = false ∧
      filterRejects (Vector.replicate 8 { defaultFilter with active := true, channelMask := 0xFFFF, high := 53 }) closedHit = true := by
  decide +kernel

theorem witness_StandaloneRecordsAreShedLostOrAdmitted :
    (State.reset.wave.find closedHit.channel closedHit.hitId = none ∧ State.reset.rq.hits.length < 256) ∧
      (let s : State := { State.reset with rq := { RecordQueues.reset with shed := 2 } }
       2 ≤ s.rq.shed.val ∧ closedHit.role = .data ∧ ({ closedHit with amplitude := 44 } : ClosedHit).amplitude < s.tables.setup.shedFloorDb) ∧
      (256 ≤ busyState.rq.hits.length ∧ busyState.wave.find 6 0 = none) ∧
      (let s : State := { busyState with rq := RecordQueues.reset }
       s.wave.find 5 0 = some 63 ∧ (s.wave.segments[(63 : Fin 64)].map Segment.mode) = some .all ∧ s.rq.hits.length < 256) := by
  decide +kernel

/-- Any occupancy at any shed level, and the boundary values of R160's table. -/
theorem witness_ShedTable :
    (∀ (level : Fin 4) (n : Nat),
      let s : State := { State.reset with rq := { RecordQueues.reset with
        shed := level, hits := List.replicate n { record := recordOf closedHit EventTag.none none none, entryTime := 0 } } }
      s.rq.shed = level ∧ s.rq.hits.length = n ∧
        256 - (s.wave.segments.toList.map fun o => (o.map fun g => g.blocks.length).getD 0).sum = 256) ∧
      (128 ≤ 128 ∧ 127 < 128 ∧ 192 ≤ 192 ∧ 64 ≤ 64 ∧ 128 ≤ 256 ∧ 191 < 192 ∧ 64 < 65 ∧ 256 ≤ 256 ∧ 128 < 129 ∧ 224 ≤ 224 ∧ 224 < 225) :=
  ⟨fun _ n => ⟨rfl, by simp, by show 256 - (WaveStore.reset.segments.toList.map _).sum = 256; decide +kernel⟩, by decide⟩

/-- An opening under a guard count, one that joins the context of channel 0, one that opens a context, one without a pair, and one that
finds no context. -/
theorem witness_OpeningsAreGuardedOrAssembled :
    let s : State := { armedAt 1100 (.inHit lastHit) with tables := pairTables }
    let h : OpenHit := { lastHit with arrival := 1100 }
    (s.dets[(5 : Channel)].machine = .inHit lastHit ∧ s.guard[(5 : Channel)] = 0) ∧
      (0 < ({ s with guard := upd s.guard 5 fun _ => 1 } : State).guard[(5 : Channel)]) ∧
      (pairTables.pairOf 0 1 = some { chA := 0, chB := 1, distanceMm := 2400, dtMax := 1000 } ∧ ticksBetween h.arrival 100 ≤ 1000) ∧
      (∃ p ∈ pairTables.usedPairs, p.chA = 1 ∨ p.chB = 1) ∧ (¬ ∃ p ∈ pairTables.usedPairs, p.chA = 5 ∨ p.chB = 5) ∧
      (∀ k : Fin 4, s.asm.contexts[k] = none) := by
  decide +kernel

/-- The hit of channel 1 as it closes with this cause. -/
def closedOne (cause : Closure) : ClosedHit := { closedHit with channel := 1, hitId := 1, cause := cause }

/-- The closure of the last open member of the context of `collecting`, behind these members. -/
theorem closure_collecting (before : List Member) (hb : ∀ b ∈ before, ¬ b.Closes (closedOne .normal)) (cause : Closure)
    (settling : Bool) :
    let c := { endedContext (before ++ [memberOf 1 false]) with settling := settling }
    let s := collecting 1101 [] .ramp 0 []
    MemberClosure { s with asm := { s.asm with contexts := upd s.asm.contexts 3 fun _ => some c } } (closedOne cause) 3 c before
      (memberOf 1 false) [] := by
  refine ⟨rfl, rfl, ⟨rfl, rfl, rfl⟩, fun b h k => hb b h ⟨k.isOpen, k.channel, k.hitId⟩, ?_⟩
  intro j b n hj _ _
  fin_cases j
  · cases hj
  · cases hj
  · cases hj
  · rfl

theorem memberZero_notCloses (parked : Bool) : ¬ (memberOf 0 parked).Closes (closedOne .normal) :=
  fun h => absurd (show (0 : Channel) = 1 from h.channel) (by decide)

/-- Closures of members: parked while the context collects, the last of a settling context, forced by an entry to OFF, and rejected with
one and with two members left. No member has a segment. -/
theorem witness_MemberClosures :
    (∀ b ∈ [memberOf 0 true], ¬ b.Closes (closedOne .normal)) ∧
      (∀ b ∈ [memberOf 0 true, memberOf 0 false], ¬ b.Closes (closedOne .normal)) ∧
      WaveStore.reset.find 1 1 = none ∧ filterRejects defaultTables.filter (closedOne .normal) = false ∧
      ((closedOne .aborted).cause = .aborted ∧ (closedOne .laneFault).cause ≠ .aborted ∧ (closedOne .laneFault).cause ≠ .clockFault) ∧
      (let rule : FilterRule := { defaultFilter with active := true, channelMask := 0xFFFF, high := 53 }
       filterRejects (Vector.replicate 8 rule) (closedOne .normal) = true) ∧
      ((closedOne .normal).channel ≠ (endedContext []).first ∧ [memberOf 0 true].length ≤ 1 ∧
        2 ≤ [memberOf 0 true, memberOf 0 false].length) ∧
      (∀ j : Fin 4, j ≠ 3 → (collecting 1101 [memberOf 0 true] .ramp 0 []).asm.contexts[j] = none) := by
  refine ⟨?_, ?_, by decide +kernel, by decide +kernel, by decide, by decide +kernel, by decide, ?_⟩
  · simp only [List.forall_mem_singleton]; exact memberZero_notCloses _
  · rw [List.forall_mem_cons, List.forall_mem_singleton]; exact ⟨memberZero_notCloses _, memberZero_notCloses _⟩
  · intro j hj
    fin_cases j
    · rfl
    · rfl
    · rfl
    · exact absurd rfl hj

/-- Lanes in every state, at the last count before each step: the eighth good word, the eighth framing error, the fourth missing word, the
2000th clean sample. -/
theorem witness_LiveLanesDeliverOrFault :
    let l : Lane := { Lane.reset with state := .live true, framingList := [0, 1, 2, 3, 4, 5, 6], tickNumber := 999, missingRun := 3 }
    l.state = .live true ∧ 7 ≤ (l.framingList.filter fun e => decide ((l.tickNumber - e).toNat < 1000)).length ∧
      (({ l with tickNumber := 1000 } : Lane).framingList.filter fun e => decide (((1000 : BitVec 48) - e).toNat < 1000)).length < 7 ∧
      4 ≤ l.missingRun + 1 ∧ ({ l with missingRun := 2 } : Lane).missingRun + 1 < 4 ∧
      ({ l with state := .syncing, goodRun := 7 } : Lane).state = .syncing ∧ 8 ≤ 7 + 1 ∧ 6 + 1 < 8 ∧
      ({ l with state := .settling } : Lane).state = .settling ∧ Lane.reset.state = .off ∧
      ({ l with state := .faulted .silent } : Lane).state = .faulted .silent ∧ LaneCause.silent ≠ .stuck ∧
      ({ l with state := .faulted .stuck, cleanRun := 1999 } : Lane).state = .faulted .stuck ∧ 1999 < 2000 := by decide +kernel

/-- R18: on the 2000th clean sample the lane is still FAULTED(STUCK); it is LIVE, and delivers, from the next tick. -/
theorem test_stuck_recovers :
    let l : Lane := { Lane.reset with state := .faulted .stuck, cleanRun := 1999 }
    let r := l.tick 50 (.wellFormed 5)
    r.lane.state = .faulted .stuck ∧ r.delivered = none ∧ (r.lane.tick 50 (.wellFormed 6)).delivered = some 6 := by decide +kernel

/-- A LIVE lane that misses a fourth word while its detector holds a hit and while it holds none, and a detector that learns. -/
theorem witness_Departures :
    let lane : Lane := { Lane.reset with state := .live true, missingRun := 3 }
    let s : State := { armedAt 1005 (.inHit lastHit) with lanes := upd State.reset.lanes 5 fun _ => lane }
    (s.lanes[(5 : Channel)].state = .live true ∧ s.acq = .armed ∧ s.dets[(5 : Channel)].waiting = none ∧
      (s.lanes[(5 : Channel)].tick 50 .missing).fault = some .silent ∧ s.dets[(5 : Channel)].machine = .inHit lastHit ∧
      s.wave.find 5 lastHit.hitId = none ∧ ∀ k : Fin 4, s.asm.contexts[k] = none) ∧
      (armedAt 1005 .idle).dets[(5 : Channel)].open? = none ∧
      (let t : State := { s with acq := .learning 0 1, dets := State.reset.dets }
       t.dets[(5 : Channel)].machine = .blocked ∧ t.dets[(5 : Channel)].waiting = none ∧
        (t.lanes[(5 : Channel)].tick 50 (.wellFormed 7)).delivered = some 7 ∧
        (t.lanes[(5 : Channel)].tick 50 .missing).delivered = none) := by decide +kernel

/-- A channel that captures, with a free descriptor and just enough blocks; a level at which it does not; and a segment that fills, that
is full, and that keeps fewer blocks than it has. -/
theorem witness_CapturesAndPieces :
    let s : State := { State.reset with dets := upd State.reset.dets 5 fun d => { d with active := { d.active with wfMode := .all } } }
    (s.dets[(5 : Channel)].active.wfMode ≠ .off ∧ s.dets[(4 : Channel)].active.wfMode = .off ∧ s.rq.shed = 0 ∧
      (2048 + 255) / 256 ≤ s.wave.freeBlocks ∧ s.wave.segments[(0 : Fin 64)] = none ∧ busyState.rq.shed ≠ 0) ∧
      (busyState.dets[(5 : Channel)].machine = .inHit lastHit ∧ busyState.wave.find 5 lastHit.hitId = some 63 ∧
        busyState.wave.segments[(63 : Fin 64)] = some hitSegment ∧ hitSegment.state = .filling ∧
        (takeSample 5 600 busyState).closed = false ∧ hitSegment.samples.length < hitSegment.capacity ∧
        ({ hitSegment with capacity := 1 } : Segment).capacity ≤ hitSegment.samples.length) ∧
      ((hitSegment.samples.length + 255) / 256 < ({ hitSegment with blocks := [254, 255] } : Segment).blocks.length ∧
        hitSegment.blocks.length ≤ (hitSegment.samples.length + 255) / 256 ∧
        busyState.wave.find closedHit.channel closedHit.hitId = some 63 ∧ 256 ≤ busyState.rq.hits.length ∧
        ({ busyState with rq := RecordQueues.reset } : State).rq.hits.length < 256 ∧
        ({ hitSegment with mode := .eventOnly } : Segment).mode ≠ .all ∧
        filterRejects State.reset.tables.filter closedHit = false ∧ ∀ k : Fin 4, busyState.asm.contexts[k] = none) := by decide +kernel

/-- A segment of the member that `closure_collecting` closes. -/
theorem witness_WaitingSegment :
    let g : Segment := { hitSegment with channel := 1, hitId := 1 }
    let w := { WaveStore.reset with segments := upd WaveStore.reset.segments 0 fun _ => some g }
    w.find (closedOne .normal).channel (closedOne .normal).hitId = some 0 ∧ w.segments[(0 : Fin 64)] = some g ∧
      g.blocks.length ≤ (g.samples.length + 255) / 256 := by decide +kernel

/-- Two contexts in use and two that are FREE. -/
theorem witness_DissolveTurns :
    let c : Context := openContext State.reset 0 openedHit
    let s : State := { State.reset with asm := { Assembler.reset with contexts := upd (upd Assembler.reset.contexts 1 fun _ => some c) 3 fun _ => some c } }
    s.asm.contexts[(0 : Fin 4)] = none ∧ s.asm.contexts[(1 : Fin 4)] = some c ∧ s.asm.contexts[(2 : Fin 4)] = none ∧
      s.asm.contexts[(3 : Fin 4)] = some c := by decide +kernel

/-- A clear entry with both enables on and an empty queue, one without its group enable, and a set one. -/
theorem witness_SummariesFollowEnabledFactors :
    let cond : Conditions := { State.reset.cond with enables := FactorBits.none.on .hitLoss, groupEnables := 8 }
    (cond.factors.get .hitLoss = false ∧ cond.enables.get .hitLoss = true ∧ cond.groupEnables.getLsbD 3 = true ∧
      (∀ n ∈ State.reset.rq.notices, n.factor ≠ .hitLoss) ∧ State.reset.rq.notices.length < 16) ∧
      ({ cond with groupEnables := 0 } : Conditions).groupEnables.getLsbD 3 = false ∧
      ({ cond with factors := FactorBits.none.on .hitLoss } : Conditions).factors.get .hitLoss = true := by decide +kernel

/-- Detectors without a hit, and an opening that captures, one that cuts at once and one that is skipped. -/
theorem witness_OpeningCaptures :
    let s (m : DetState) (rearm : Nat) : State :=
      { armedAt 1000 m with dets := upd State.reset.dets 5 fun d =>
        { d with machine := m, rearm := rearm, active := { exampleEntry with wfMode := .all } } }
    ((s .blocked 0).dets[(5 : Channel)].machine = .blocked ∧ (s .blocked 0).acq = .armed ∧ (s .blocked 0).dets[(5 : Channel)].rearm = 0) ∧
      0 < (s .blocked 1).dets[(5 : Channel)].rearm ∧ State.reset.acq ≠ .armed ∧ (s .rearmHold 1).dets[(5 : Channel)].machine = .rearmHold ∧
      ((s .idle 0).dets[(5 : Channel)].machine = .idle ∧ (s .idle 0).dets[(5 : Channel)].thrCode ≤ magnitude 700 ∧
        (s .idle 0).nextHit = some 0 ∧ (s .idle 0).wave.find 5 0 = none ∧ (s .idle 0).dets[(5 : Channel)].active.wfMode ≠ .off ∧
        (s .idle 0).rq.shed = 0 ∧ (2048 + 255) / 256 ≤ (s .idle 0).wave.freeBlocks ∧ (s .idle 0).wave.segments[(0 : Fin 64)] = none) ∧
      ({ RecordQueues.reset with shed := 1 } : RecordQueues).shed ≠ 0 := by decide +kernel

/-- A drain with nothing left at the end of its row, and one with a hit left. -/
theorem witness_RowDrains :
    (let s := stateAt (.draining .standby) .locked
     s.AtRest ∧ (rowTaken (tabulate fun _ => .missing) s).NothingOpen) ∧
      (let s : State := { armedAt 1005 (.inHit lastHit) with acq := .draining .off }
       s.AtRest ∧ (rowTaken (tabulate fun _ => .missing) s).dets[(5 : Channel)].open? ≠ none) :=
  ⟨⟨⟨rfl, rfl⟩, ⟨by decide +kernel, by decide +kernel⟩⟩, ⟨rfl, rfl⟩, by decide +kernel⟩

/-- The commands of the expiries, in the order in which a row takes them, where a slot has ended: nothing is due after them. -/
theorem witness_DueBeforeRow :
    let s : State := { stateAt .standby .locked with pl := { PressureLane.reset with slotTicks := 1000 } }
    let due : List Instr :=
      channels.map .laneSyncTimeout ++ channels.map .laneSettleEnd ++ channels.map .rearmExpiry
        ++ [.intervalExpiry, .plSlotEnd, .syncingSubstepEnd, .settlingSubstepEnd, .learningEnd, .windowExpiry]
    let take (o : Host.Outcome State Fault Refusal) (c : Instr) : Host.Outcome State Fault Refusal :=
      match o with
      | .next t => exec c t
      | .fault f => .fault f
      | .refused r => .refused r
    s.plSlotDue = true ∧ ∃ u : State, due.foldl take (.next s) = .next u ∧ u.synth = .locked ∧ u.NothingDue := by
  intro s due take
  have taken : (match due.foldl take (.next s) with
      | .next u => decide (u.synth = .locked ∧ (∀ ch, syncTimeoutDue ch u = false) ∧ (∀ ch, laneSettleDue ch u = false) ∧
          (∀ ch, rearmDue ch u = false) ∧ u.intervalDue = false ∧ u.plSlotDue = false ∧ u.syncingDue = false ∧
          u.settlingDue = false ∧ u.learningDue = false ∧ u.windowDue = false)
      | .fault _ => false
      | .refused _ => false) = true := by decide +kernel
  refine ⟨by decide +kernel, ?_⟩
  generalize due.foldl take (.next s) = o at taken ⊢
  cases o with
  | next u =>
    obtain ⟨locked, a, b, c, d, e, f, g, h, i⟩ := of_decide_eq_true taken
    exact ⟨u, rfl, locked, ⟨a, b, c, d, e, f, g, h, i⟩⟩
  | fault f => cases taken
  | refused r => cases taken

/-- A lane that delivers, one that does not, and a SETTLING one that faults. -/
theorem witness_ChannelTurns :
    let lane (st : LaneState) : Lane := { State.reset.lanes[(5 : Channel)] with state := st, missingRun := 3 }
    ((lane (.live false)).tick 50 (.wellFormed 9)).delivered = some 9 ∧ ((lane (.live false)).tick 50 (.wellFormed 9)).entered = true ∧
      (((lane .off).tick 50 .missing).delivered = none ∧ ((lane .off).tick 50 .missing).fault = none) ∧
      ((lane .settling).tick 50 .missing).fault = some .silent := by decide +kernel

end Sys2Proof.Tests
end

