-- ==== Sys2Proof/Proofs/TestTime.lean ====
section
/-! R7: what ZERO_TIME answers at a quiet part. -/

namespace Sys2Proof.Machine

/-- R200: the request kind of ZERO_TIME goes to its owner. -/
theorem judge_zeroTime (tag : Byte) (s : State) : judge { kind := 0x04, tag := tag, args := [] } s = zeroTime s := rfl

/-- R7: ZERO_TIME in OFF or STANDBY. -/
theorem zeroTime_taken {s : State} (h : s.acq = .off ∨ s.acq = .standby) :
    zeroTime s = Answer.plain { s with tt := 0 } .ok := if_pos h

/-- R7: ZERO_TIME in any other acquisition state. -/
theorem zeroTime_refused {s : State} (h : ¬ (s.acq = .off ∨ s.acq = .standby)) :
    zeroTime s = Answer.plain s .state := if_neg h

/-- What the ZERO_TIME row comes to at a quiet part, given what its owner answers once the request is counted. -/
theorem exec_zeroTime_quiet {s t : State} {code : Code} (tag : Byte) (quiet : s.Quiet)
    (answer : zeroTime (countTaken s) = Answer.plain (countTaken t) code) (cannotStart : t.canStart = false) :
    exec (.zeroTime tag) s = .next (t.answered tag 0x04 code []) :=
  exec_quiet (i := .zeroTime tag) quiet rfl ((judge_zeroTime tag (countTaken s)).trans answer) cannotStart

/-- Settles O24: the counting of the request leaves the acquisition state, so R7 decides on the state as it stood. -/
theorem zeroTimeAnswers : Obligations.ZeroTimeAnswers := by
  intro s tag quiet
  constructor
  · intro taken
    have answer : zeroTime (countTaken s) = Answer.plain (countTaken { s with tt := 0 }) .ok := zeroTime_taken taken
    exact exec_zeroTime_quiet tag quiet answer quiet.cannotStart
  · intro notOff notStandby
    have refused : ¬ (s.acq = .off ∨ s.acq = .standby) := not_or.mpr ⟨notOff, notStandby⟩
    exact exec_zeroTime_quiet tag quiet (zeroTime_refused (s := countTaken s) refused) quiet.cannotStart

end Sys2Proof.Machine
end

section
/-! R63: ladder(m) against the ladder table. The table rises, so the entries that a product reaches are a front part of it. -/

namespace Sys2Proof.Machine

/-- In a list that rises, a place lies in the front part of values up to `p` exactly when its own value is up to `p`. -/
theorem lt_length_takeWhile_le_iff {l : List Nat} (rises : l.Pairwise (· ≤ ·)) (p : Nat) {i : Nat} (hi : i < l.length) :
    i < (l.takeWhile fun v => v ≤ p).length ↔ l[i] ≤ p := by
  induction l generalizing i with
  | nil => cases hi
  | cons v l ih =>
    obtain ⟨least, rises⟩ := List.pairwise_cons.mp rises
    by_cases hv : v ≤ p
    · cases i with
      | zero => simp [hv]
      | succ i => simpa [hv] using ih rises (Nat.lt_of_succ_lt_succ hi)
    · have above : v ≤ (v :: l)[i] := by
        cases i with
        | zero => exact le_rfl
        | succ i => exact least _ (List.getElem_mem (Nat.lt_of_succ_lt_succ hi))
      simpa [hv] using (not_le.mp hv).trans_le above

theorem ladderTable_length : ladderTable.length = 101 := rfl

theorem ladderTable_rises : ladderTable.Pairwise (· ≤ ·) :=
  List.isChain_iff_pairwise.mp (by decide +kernel)

theorem ladderVolt_eq_getElem {a : Nat} (ha : a < ladderTable.length) : ladderVolt a = ladderTable[a] :=
  List.getD_eq_getElem _ _ ha

/-- The level of a product is the last place of the table's front part that the product reaches. -/
theorem lt_reached_length_iff {a : Nat} (ha : a ≤ 100) (p : Nat) :
    a < (ladderTable.takeWhile fun v => v ≤ p).length ↔ ladderVolt a ≤ p := by
  have inTable : a < ladderTable.length := Nat.lt_succ_of_le ha
  rw [ladderVolt_eq_getElem inTable]
  exact lt_length_takeWhile_le_iff ladderTable_rises p inTable

theorem ladderLevel_le_hundred (m lsb : Nat) : ladderLevel m lsb ≤ 100 := by
  have atMost := (List.takeWhile_prefix (l := ladderTable) fun v => decide (v ≤ m * lsb)).length_le
  rw [ladderTable_length] at atMost
  exact Nat.sub_le_of_le_add atMost

/-- R63, step 2. -/
theorem ladderLevel_of_below {m lsb : Nat} (below : m * lsb < ladderVolt 0) : ladderLevel m lsb = 0 := by
  have noneReached := mt (lt_reached_length_iff (Nat.zero_le 100) (m * lsb)).mp (not_le.mpr below)
  unfold ladderLevel
  omega

/-- R63, step 3: once L[0] is reached, the levels up to ladder(m) are those whose ladder voltage the product reaches. -/
theorem le_ladderLevel_iff {m lsb a : Nat} (reached : ladderVolt 0 ≤ m * lsb) (ha : a ≤ 100) :
    a ≤ ladderLevel m lsb ↔ ladderVolt a ≤ m * lsb := by
  have someReached := (lt_reached_length_iff (Nat.zero_le 100) (m * lsb)).mpr reached
  rw [← lt_reached_length_iff ha]
  unfold ladderLevel
  omega

theorem ladderVolt_ladderLevel_le {m lsb : Nat} (reached : ladderVolt 0 ≤ m * lsb) : ladderVolt (ladderLevel m lsb) ≤ m * lsb :=
  (le_ladderLevel_iff reached (ladderLevel_le_hundred m lsb)).mp le_rfl

/-- R63: a larger magnitude never gives a lower level. -/
theorem ladderLevel_mono {n m : Nat} (lsb : Nat) (hnm : n ≤ m) : ladderLevel n lsb ≤ ladderLevel m lsb := by
  have products : n * lsb ≤ m * lsb := Nat.mul_le_mul_right lsb hnm
  rcases lt_or_ge (n * lsb) (ladderVolt 0) with below | reached
  · rw [ladderLevel_of_below below]
    exact Nat.zero_le _
  · exact (le_ladderLevel_iff (reached.trans products) (ladderLevel_le_hundred n lsb)).mpr
      ((ladderVolt_ladderLevel_le reached).trans products)

theorem ladderLevel_of_top_reached {m lsb : Nat} (top : ladderVolt 100 ≤ m * lsb) : ladderLevel m lsb = 100 := by
  have bottomBelowTop : ladderVolt 0 ≤ ladderVolt 100 := by decide
  exact (ladderLevel_le_hundred m lsb).antisymm ((le_ladderLevel_iff (bottomBelowTop.trans top) le_rfl).mpr top)

/-- Settles O6: L[0] decides between the two steps of R63, and above it `le_ladderLevel_iff` says which levels are reached. -/
theorem ladderLevelIsLargest : Obligations.LadderLevelIsLargest := by
  intro m lsb hm _ hlsb
  have product : m * lsb ≤ 32768 * 65535 := Nat.mul_le_mul hm hlsb
  exact ⟨product, ladderLevel_of_below,
    fun reached => ⟨ladderVolt_ladderLevel_le reached, fun _ ha => (le_ladderLevel_iff reached ha).mpr⟩,
    ladderLevel_le_hundred m lsb, ladderLevel_of_top_reached, fun _ => ladderLevel_mono lsb⟩

end Sys2Proof.Machine
end

section
/-! R164: the account of a channel as one figure, the hits opened that no term of the account covers, and what each operation on the
state does to it. -/

namespace Sys2Proof.Machine

/-! ## The figure -/

/-- R163: the hits that a detector has opened and no longer holds open. -/
def Detector.closedHits (d : Detector) : Counter := d.hitsOpened - BitVec.ofNat 32 d.openCount

/-- One hit of a channel. -/
def oneHit (ch : Channel) : Channel → Counter := Pi.single ch 1

/-- R163: what a member adds to the hits held of each channel: the hit that it parks. -/
def Member.held (m : Member) : Channel → Counter :=
  match m.parked with
  | some c => oneHit c.channel
  | none => 0

/-- R163: the hits that members park, channel by channel. -/
def heldBy (ms : List Member) : Channel → Counter := (ms.map Member.held).sum

/-- R163: the hits that a context parks, channel by channel. -/
def heldIn (o : Option Context) : Channel → Counter :=
  match o with
  | some c => heldBy c.members
  | none => 0

/-- R163: the hits that the four contexts park, channel by channel. -/
def heldInAll (contexts : Vector (Option Context) 4) : Channel → Counter := ∑ k : Fin 4, heldIn contexts[k]

/-- R164: the hits of a channel that it has opened and that no term of its account covers. -/
def State.unaccounted (s : State) (ch : Channel) : Counter :=
  s.dets[ch].hitsOpened - (s.rq.counts[ch].fates + BitVec.ofNat 32 (s.hitsHeld ch))

/-- R164: every account balances where no hit is unaccounted for. -/
theorem balanced_iff {s : State} : s.Balanced ↔ s.unaccounted = 0 :=
  ⟨fun h => funext fun ch => sub_eq_zero.mpr (h ch), fun h ch => sub_eq_zero.mp (congrFun h ch)⟩

@[simp] theorem heldBy_nil : heldBy [] = 0 := rfl

@[simp] theorem heldBy_cons (m : Member) (ms : List Member) : heldBy (m :: ms) = m.held + heldBy ms :=
  List.sum_cons

@[simp] theorem heldBy_append (ms ns : List Member) : heldBy (ms ++ ns) = heldBy ms + heldBy ns := by
  simp [heldBy]

@[simp] theorem heldIn_none : heldIn none = 0 := rfl

@[simp] theorem heldIn_some (c : Context) : heldIn (some c) = heldBy c.members := rfl

theorem Member.held_open {m : Member} (h : m.parked = none) : m.held = 0 := by
  simp [Member.held, h]

theorem Member.held_parked {m : Member} {c : ClosedHit} (h : m.parked = some c) : m.held = oneHit c.channel := by
  simp [Member.held, h]

/-- The model's count of parked hits is the sum of what the members hold. -/
theorem ofNat_parkedIn (ms : List Member) (ch : Channel) : BitVec.ofNat 32 (parkedIn ms ch) = heldBy ms ch := by
  induction ms with
  | nil => rfl
  | cons m ms ih =>
    unfold parkedIn at ih ⊢
    rw [List.countP_cons, BitVec.ofNat_add, ih, heldBy_cons, Pi.add_apply, add_comm]
    congr 1
    cases h : m.parked with
    | none => rw [Member.held_open h]; rfl
    | some c =>
      rw [Member.held_parked h]
      by_cases e : c.channel = ch
      · simp [oneHit, e]
      · simp [oneHit, e]

theorem ofNat_parkedOf (o : Option Context) (ch : Channel) : BitVec.ofNat 32 (parkedOf o ch) = heldIn o ch := by
  cases o with
  | none => rfl
  | some c => exact ofNat_parkedIn c.members ch

/-- The figure read off the detectors, the counters and the contexts. -/
theorem unaccounted_apply (s : State) (ch : Channel) :
    s.unaccounted ch = s.dets[ch].closedHits - s.rq.counts[ch].fates - heldInAll s.asm.contexts ch := by
  have held : BitVec.ofNat 32 (s.asm.parkedCount ch) = heldInAll s.asm.contexts ch := by
    simp only [Assembler.parkedCount, BitVec.ofNat_add, ofNat_parkedOf, heldInAll, Fin.sum_univ_four, Pi.add_apply]
  unfold State.unaccounted State.hitsHeld Detector.closedHits
  rw [BitVec.ofNat_add, held]
  abel

/-! ## What leaves it as it is -/

/-- The figure depends on the hits each detector has closed, the four fates of each channel, and the contexts. -/
theorem unaccounted_congr {s t : State} (dets : ∀ ch : Channel, t.dets[ch].closedHits = s.dets[ch].closedHits)
    (fates : ∀ ch : Channel, t.rq.counts[ch].fates = s.rq.counts[ch].fates) (contexts : t.asm.contexts = s.asm.contexts) :
    t.unaccounted = s.unaccounted := by
  funext ch
  rw [unaccounted_apply, unaccounted_apply, dets, fates, contexts]

/-- Whatever else is written, the same detectors, counters and contexts leave the same figure. -/
theorem unaccounted_frame {s t : State} (dets : t.dets = s.dets) (counts : t.rq.counts = s.rq.counts)
    (contexts : t.asm.contexts = s.asm.contexts) : t.unaccounted = s.unaccounted :=
  unaccounted_congr (fun _ => by rw [dets]) (fun _ => by rw [counts]) contexts

theorem Booked.unaccounted {s t : State} (h : Booked s t) : t.unaccounted = s.unaccounted :=
  unaccounted_frame h.dets h.counts (by rw [h.asm])

@[simp] theorem unaccounted_modLane (s : State) (ch : Channel) (f : Lane → Lane) :
    (s.modLane ch f).unaccounted = s.unaccounted := rfl

@[simp] theorem unaccounted_modFigures (s : State) (ch : Channel) (f : IntervalFigures → IntervalFigures) :
    (s.modFigures ch f).unaccounted = s.unaccounted := rfl

@[simp] theorem unaccounted_modWave (s : State) (f : WaveStore → WaveStore) :
    (s.modWave f).unaccounted = s.unaccounted := rfl

theorem unaccounted_modAsm (s : State) {f : Assembler → Assembler} (h : (f s.asm).contexts = s.asm.contexts) :
    (s.modAsm f).unaccounted = s.unaccounted := unaccounted_frame rfl rfl h

@[simp] theorem unaccounted_setFactor (f : Factor) (index : Nat) (reached : Option Nat) (s : State) :
    (setFactor f index reached s).unaccounted = s.unaccounted := (setFactor_booked f index reached s).unaccounted

@[simp] theorem unaccounted_raise (f : Factor) (s : State) : (raise f s).unaccounted = s.unaccounted :=
  (raise_booked f s).unaccounted

@[simp] theorem unaccounted_evalShed (s : State) : (evalShed s).unaccounted = s.unaccounted := (evalShed_booked s).unaccounted

@[simp] theorem unaccounted_freeSegmentOf (ch : Channel) (hitId : Counter) (s : State) :
    (freeSegmentOf ch hitId s).unaccounted = s.unaccounted := (freeSegmentOf_booked ch hitId s).unaccounted

@[simp] theorem unaccounted_segmentLeavesContext (ch : Channel) (hitId : Counter) (s : State) :
    (segmentLeavesContext ch hitId s).unaccounted = s.unaccounted := (segmentLeavesContext_booked ch hitId s).unaccounted

@[simp] theorem unaccounted_segmentFill (ch : Channel) (hitId : Counter) (smp : Sample) (s : State) :
    (segmentFill ch hitId smp s).unaccounted = s.unaccounted := (segmentFill_booked ch hitId smp s).unaccounted

@[simp] theorem unaccounted_segmentFillEnd (ch : Channel) (hitId : Counter) (s : State) :
    (segmentFillEnd ch hitId s).unaccounted = s.unaccounted := (segmentFillEnd_booked ch hitId s).unaccounted

@[simp] theorem unaccounted_segmentWait (ch : Channel) (hitId : Counter) (s : State) :
    (segmentWait ch hitId s).unaccounted = s.unaccounted := (segmentWait_booked ch hitId s).unaccounted

/-! ## What moves it -/

/-- A detector that closes a hit has one more unaccounted for. -/
theorem unaccounted_modDet_of_closes {s : State} {ch : Channel} {f : Detector → Detector}
    (h : (f s.dets[ch]).closedHits = s.dets[ch].closedHits + 1) : (s.modDet ch f).unaccounted = s.unaccounted + oneHit ch := by
  funext j
  rw [Pi.add_apply, unaccounted_apply, unaccounted_apply, State.modDet_dets, State.modDet_rq, State.modDet_asm]
  by_cases e : j = ch
  · subst e
    rw [upd_same, h, oneHit, Pi.single_eq_same]
    abel
  · rw [upd_other _ _ _ _ (Ne.symm e), oneHit, Pi.single_eq_of_ne e, add_zero]

/-- A detector that closes no hit keeps its account. -/
theorem unaccounted_modDet_of_keeps {s : State} {ch : Channel} {f : Detector → Detector}
    (h : (f s.dets[ch]).closedHits = s.dets[ch].closedHits) : (s.modDet ch f).unaccounted = s.unaccounted := by
  refine unaccounted_congr (fun j => ?_) (fun _ => rfl) rfl
  rw [State.modDet_dets, upd_get]
  split
  · next e => subst e; exact h
  · rfl

/-- Counters that take no fate keep the account. -/
theorem unaccounted_modCounts_of_keeps {s : State} {ch : Channel} {f : ChannelCounts → ChannelCounts}
    (h : (f s.rq.counts[ch]).fates = s.rq.counts[ch].fates) : (s.modCounts ch f).unaccounted = s.unaccounted := by
  refine unaccounted_congr (fun _ => rfl) (fun j => ?_) rfl
  rw [State.modCounts_rq]
  show (upd s.rq.counts ch f)[j].fates = _
  rw [upd_get]
  split
  · next e => subst e; exact h
  · rfl

/-- A fate taken accounts for one hit of its channel. -/
theorem unaccounted_of_fate {s t : State} {ch : Channel} (dets : t.dets = s.dets) (asm : t.asm = s.asm)
    (fates : t.rq.counts[ch].fates = s.rq.counts[ch].fates + 1) (others : ∀ j, j ≠ ch → t.rq.counts[j] = s.rq.counts[j]) :
    t.unaccounted = s.unaccounted - oneHit ch := by
  funext j
  rw [Pi.sub_apply, unaccounted_apply, unaccounted_apply, dets, asm]
  by_cases e : j = ch
  · subst e
    rw [fates, oneHit, Pi.single_eq_same]
    abel
  · rw [others j e, oneHit, Pi.single_eq_of_ne e, sub_zero]

theorem Fated.unaccounted {ch : Channel} {s t : State} (h : Fated ch s t) : t.unaccounted = s.unaccounted - oneHit ch :=
  unaccounted_of_fate (by rw [h.eq]) (by rw [h.eq]) h.fates h.others

/-- A context replaced: what the old one held is unaccounted for, and what the new one holds is not. -/
theorem unaccounted_putContext (s : State) (k : Fin 4) (o : Option Context) :
    (s.putContext k o).unaccounted = s.unaccounted + heldIn s.asm.contexts[k] - heldIn o := by
  have held : heldInAll (upd s.asm.contexts k fun _ => o) = heldInAll s.asm.contexts - heldIn s.asm.contexts[k] + heldIn o := by
    have others : ∀ j ∈ Finset.univ.erase k, heldIn (upd s.asm.contexts k fun _ => o)[j] = heldIn s.asm.contexts[j] :=
      fun j hj => congrArg heldIn (upd_other _ _ _ _ (Finset.ne_of_mem_erase hj).symm)
    unfold heldInAll
    rw [← Finset.add_sum_erase _ _ (Finset.mem_univ k), upd_same, Finset.sum_congr rfl others,
      ← Finset.add_sum_erase Finset.univ (fun j => heldIn s.asm.contexts[j]) (Finset.mem_univ k)]
    abel
  funext ch
  rw [Pi.sub_apply, Pi.add_apply, unaccounted_apply, unaccounted_apply, State.putContext_asm, held]
  simp only [State.putContext_dets, State.putContext_rq, Pi.add_apply, Pi.sub_apply]
  abel

/-- A context that becomes FREE leaves what it held unaccounted for. -/
theorem unaccounted_putContext_none (s : State) (k : Fin 4) :
    (s.putContext k none).unaccounted = s.unaccounted + heldIn s.asm.contexts[k] := by
  rw [unaccounted_putContext, heldIn_none, sub_zero]

/-- A context replaced by one that holds the same hits. -/
theorem unaccounted_putContext_of_same {s : State} {k : Fin 4} {o : Option Context} (h : heldIn o = heldIn s.asm.contexts[k]) :
    (s.putContext k o).unaccounted = s.unaccounted := by
  rw [unaccounted_putContext, h, add_sub_cancel_right]

/-! ## Loops -/

/-- A loop whose turns account for hits accounts for their sum. -/
theorem unaccounted_foldl {α : Type} {turn : State → α → State} {cost : α → Channel → Counter}
    (h : ∀ s a, (turn s a).unaccounted = s.unaccounted - cost a) (l : List α) (s : State) :
    (l.foldl turn s).unaccounted = s.unaccounted - (l.map cost).sum := by
  induction l generalizing s with
  | nil => exact (sub_zero _).symm
  | cons a l ih => rw [List.foldl_cons, ih, h, List.map_cons, List.sum_cons, sub_sub]

/-- A loop whose turns leave the figure leaves it. -/
theorem unaccounted_foldl_keeps {α : Type} {turn : State → α → State} (h : ∀ s a, (turn s a).unaccounted = s.unaccounted)
    (l : List α) (s : State) : (l.foldl turn s).unaccounted = s.unaccounted := by
  induction l generalizing s with
  | nil => rfl
  | cons a l ih => rw [List.foldl_cons, ih, h]

end Sys2Proof.Machine
end

section
/-! R164: what the Record Queues and the Event Assembler do to the hits that no account covers. A hit that leaves a context goes to the
queues, and a hit that is parked comes into its context. -/

namespace Sys2Proof.Machine

/-! ## Hits offered to the queues -/

theorem unaccounted_offerStandalone (t : EventTag) (c : ClosedHit) (s : State) :
    (offerStandalone t c s).unaccounted = s.unaccounted - oneHit c.channel := (offerStandalone_fated t c s).unaccounted

theorem unaccounted_offerMember (eventId : Counter) (c : ClosedHit) (s : State) :
    (offerMember eventId c s).unaccounted = s.unaccounted - oneHit c.channel := (offerMember_fated eventId c s).unaccounted

theorem unaccounted_shedRecord (c : ClosedHit) (s : State) :
    (shedRecord c s).unaccounted = s.unaccounted - oneHit c.channel := (shedRecord_fated c s).unaccounted

/-- The parked hits of members, one by one, are what the members hold. -/
theorem sum_oneHit_parked (ms : List Member) :
    ((ms.filterMap Member.parked).map fun c => oneHit c.channel).sum = heldBy ms := by
  induction ms with
  | nil => rfl
  | cons m ms ih =>
    rw [heldBy_cons]
    cases h : m.parked with
    | none => rw [List.filterMap_cons_none h, ih, Member.held_open h, zero_add]
    | some c => rw [List.filterMap_cons_some h, List.map_cons, List.sum_cons, ih, Member.held_parked h]

/-- Every parked hit of some members offered, each to one fate. -/
theorem unaccounted_foldl_parked {offer : State → ClosedHit → State}
    (h : ∀ s c, (offer s c).unaccounted = s.unaccounted - oneHit c.channel) (ms : List Member) (s : State) :
    ((ms.filterMap Member.parked).foldl offer s).unaccounted = s.unaccounted - heldBy ms := by
  rw [unaccounted_foldl h, sum_oneHit_parked]

/-! ## Open hits -/

/-- A change of an open hit leaves it open. -/
theorem Detector.closedHits_modOpen (f : OpenHit → OpenHit) (d : Detector) : (d.modOpen f).closedHits = d.closedHits := by
  unfold Detector.modOpen
  cases h : d.machine with
  | inHit k => simp [Detector.closedHits, Detector.openCount, Detector.open?, h]
  | idle => rfl
  | rearmHold => rfl
  | blocked => rfl

@[simp] theorem unaccounted_modOpen (s : State) (ch : Channel) (f : OpenHit → OpenHit) :
    (s.modOpen ch f).unaccounted = s.unaccounted := unaccounted_modDet_of_keeps (Detector.closedHits_modOpen f _)

@[simp] theorem unaccounted_decideCapture (ch : Channel) (hitId : Counter) (arrival : TestTime) (s : State) :
    (decideCapture ch hitId arrival s).unaccounted = s.unaccounted := by
  obtain ⟨u, booked, h | h⟩ := decideCapture_spec ch hitId arrival s
  · rw [h, booked.unaccounted]
  · rw [h, unaccounted_modOpen, booked.unaccounted]

/-! ## Leaving a context -/

theorem unaccounted_dissolveOpen (m : Member) (s : State) : (dissolveOpen m s).unaccounted = s.unaccounted := by
  unfold dissolveOpen
  split
  · rfl
  · rw [unaccounted_segmentLeavesContext, markOrphaned, unaccounted_modOpen]

theorem orphan_channel (c : ClosedHit) : (orphan c).channel = c.channel := by
  unfold orphan
  split <;> rfl

/-- R104: a context that dissolves with these members holds nothing more, and theirs have their fates. -/
theorem unaccounted_dissolve (k : Fin 4) (ms : List Member) (s : State) :
    (dissolve k ms s).unaccounted = s.unaccounted + heldIn s.asm.contexts[k] - heldBy ms := by
  have offered (s : State) (c : ClosedHit) :
      (offerStandalone EventTag.none (orphan c) s).unaccounted = s.unaccounted - oneHit c.channel := by
    rw [unaccounted_offerStandalone, orphan_channel]
  unfold dissolve
  simp only
  rw [unaccounted_foldl_keeps fun s m => unaccounted_dissolveOpen m s, unaccounted_foldl_parked offered,
    ← unaccounted_putContext_none]
  split
  · rfl
  · rw [unaccounted_modAsm _ (by rfl)]

theorem unaccounted_releaseMember (m : Member) (s : State) : (releaseMember m s).unaccounted = s.unaccounted - m.held := by
  unfold releaseMember
  cases h : m.parked with
  | some c => rw [Member.held_parked h]; exact unaccounted_offerStandalone _ c s
  | none => rw [Member.held_open h, sub_zero]; exact unaccounted_segmentLeavesContext _ _ s

/-- R100. -/
theorem unaccounted_release (k : Fin 4) (c : Context) (s : State) :
    (release k c s).unaccounted = s.unaccounted + heldIn s.asm.contexts[k] - heldIn (some c) := by
  unfold release
  simp only
  rw [unaccounted_foldl fun s m => unaccounted_releaseMember m s, unaccounted_modAsm _ (by rfl),
    unaccounted_putContext_none]
  rfl

/-! ## Completion -/

theorem unaccounted_zoneRule (z : Zone) (s : State) : (zoneRule z s).unaccounted = s.unaccounted := by
  unfold zoneRule
  simp only
  split
  · split
    · rw [unaccounted_raise]; rfl
    · rfl
  · rfl

theorem unaccounted_handMembers (eventId : Counter) (ms : List Member) (s : State) :
    (handMembers eventId (ms.filterMap Member.parked) s).unaccounted = s.unaccounted - heldBy ms := by
  unfold handMembers
  split
  · exact unaccounted_foldl_parked (fun s c => unaccounted_offerMember eventId c s) ms s
  · exact unaccounted_foldl_parked (fun s c => unaccounted_shedRecord c s) ms s

theorem unaccounted_queueEvent (r : EventRecord) (ms : List Member) (s : State) :
    (queueEvent r (ms.filterMap Member.parked) s).unaccounted = s.unaccounted - heldBy ms := by
  unfold queueEvent
  simp only
  rw [unaccounted_zoneRule]
  exact unaccounted_handMembers r.eventId ms _

theorem unaccounted_loseEvent (eventId : Counter) (ms : List Member) (s : State) :
    (loseEvent eventId (ms.filterMap Member.parked) s).unaccounted = s.unaccounted - heldBy ms := by
  unfold loseEvent
  simp only
  rw [unaccounted_foldl_parked fun s c => unaccounted_offerStandalone _ c s, unaccounted_raise, unaccounted_modAsm _ (by rfl)]

/-- R106, R110, R111. -/
theorem unaccounted_complete (k : Fin 4) (c : Context) (m1 m2 : Member) (s : State) :
    (complete k c m1 m2 s).unaccounted = s.unaccounted + heldIn s.asm.contexts[k] - heldIn (some c) := by
  unfold complete Context.parkedHits
  simp only
  split
  · rw [unaccounted_queueEvent, unaccounted_modAsm _ (by rfl), unaccounted_putContext_none]; rfl
  · rw [unaccounted_loseEvent, unaccounted_modAsm _ (by rfl), unaccounted_putContext_none]; rfl

/-- R106: complete or not, a context that is tested holds what it then holds, and the rest has its fate. -/
theorem unaccounted_testComplete (k : Fin 4) (c : Context) (s : State) :
    (testComplete k c s).unaccounted = s.unaccounted + heldIn s.asm.contexts[k] - heldIn (some c) := by
  unfold testComplete
  split
  · split
    · exact unaccounted_complete k c _ _ s
    · exact unaccounted_putContext s k (some c)
  · exact unaccounted_putContext s k (some c)

/-! ## Members that close -/

/-- The open hit of a channel is a member that parks nothing. -/
theorem Member.held_isOpenHit {m : Member} {ch : Channel} {hitId : Counter} (isHit : m.isOpenHit ch hitId = true) : m.held = 0 := by
  simp only [Member.isOpenHit, Bool.and_eq_true, Option.isNone_iff_eq_none] at isHit
  obtain ⟨⟨isOpen, -⟩, -⟩ := isHit
  exact Member.held_open isOpen

/-- R101: the closed hit of an open member comes into the context. -/
theorem heldBy_parkIn {ch : Channel} {hitId : Counter} (hit : ClosedHit) {ms : List Member}
    (isMember : ms.any (Member.isOpenHit ch hitId) = true) : heldBy (parkIn ch hitId hit ms) = heldBy ms + oneHit hit.channel := by
  induction ms with
  | nil => cases isMember
  | cons m ms ih =>
    unfold parkIn
    split
    · next isHit =>
      rw [heldBy_cons, heldBy_cons, Member.held_isOpenHit isHit, Member.held_parked rfl]
      abel
    · next notHit =>
      have rest : ms.any (Member.isOpenHit ch hitId) = true := by
        simpa [notHit] using isMember
      rw [heldBy_cons, heldBy_cons, ih rest, add_assoc]

/-- R102: a member that is removed is open and takes no parked hit with it. -/
theorem heldBy_removeIn (ch : Channel) (hitId : Counter) (ms : List Member) : heldBy (removeIn ch hitId ms) = heldBy ms := by
  induction ms with
  | nil => rfl
  | cons m ms ih =>
    unfold removeIn
    split
    · next isHit =>
      rw [heldBy_cons, Member.held_isOpenHit isHit, zero_add]
    · rw [heldBy_cons, heldBy_cons, ih]

/-- R101: a passed member's hit is accounted for: it is parked, or it has its fate with the others of a completed event. -/
theorem unaccounted_parkMember {k : Fin 4} {c : Context} {hit : ClosedHit} {s : State} (inUse : s.asm.contexts[k] = some c)
    (isMember : c.members.any (Member.isOpenHit hit.channel hit.hitId) = true) :
    (parkMember k c hit s).unaccounted = s.unaccounted - oneHit hit.channel := by
  unfold parkMember
  simp only
  generalize waits : segmentWait hit.channel hit.hitId s = u
  have booked : Booked s u := waits ▸ segmentWait_booked _ _ _
  have replaced (p : Bool) : u.unaccounted + heldIn u.asm.contexts[k]
      - heldIn (some { c with members := parkIn hit.channel hit.hitId hit c.members, partialMark := p })
      = s.unaccounted - oneHit hit.channel := by
    rw [booked.unaccounted, booked.asm, inUse, heldIn_some, heldIn_some, heldBy_parkIn hit isMember]
    abel
  split
  · rw [unaccounted_putContext, replaced]
  · rw [unaccounted_putContext, replaced]
  all_goals
    split
    · rw [unaccounted_testComplete, replaced]
    · rw [unaccounted_putContext, replaced]

/-- R102, R103: a rejected member leaves its context as far as parked hits go, which then has them or hands them on. -/
theorem unaccounted_removeMember {k : Fin 4} {c : Context} (ch : Channel) (hitId : Counter) {s : State}
    (inUse : s.asm.contexts[k] = some c) : (removeMember k c ch hitId s).unaccounted = s.unaccounted := by
  have dissolved : (dissolve k (removeIn ch hitId c.members) s).unaccounted = s.unaccounted := by
    rw [unaccounted_dissolve, inUse, heldIn_some, heldBy_removeIn, add_sub_cancel_right]
  have held : heldIn (some { c with members := removeIn ch hitId c.members }) = heldIn s.asm.contexts[k] := by
    rw [inUse, heldIn_some, heldIn_some, heldBy_removeIn]
  unfold removeMember
  simp only
  split
  · exact dissolved
  · split
    · split
      · exact dissolved
      · rw [unaccounted_testComplete, held, add_sub_cancel_right]
    · exact unaccounted_putContext_of_same held

/-! ## Offers and windows -/

/-- A selected context stands in the assembler under its number. -/
theorem mem_select {a : Assembler} {p : Context → Bool} {x : Fin 4 × Context} (h : x ∈ a.select p) :
    a.contexts[x.1] = some x.2 := by
  obtain ⟨k, -, hk⟩ := List.mem_filterMap.mp h
  split at hk
  · next c inUse =>
    split at hk
    · obtain rfl := Option.some.inj hk
      exact inUse
    · cases hk
  · cases hk

theorem foldl_earlier_mem (x : Fin 4 × Context) (l : List (Fin 4 × Context)) : l.foldl earlier x ∈ x :: l := by
  induction l generalizing x with
  | nil => exact List.mem_singleton_self x
  | cons y l ih =>
    have chosen : earlier x y = x ∨ earlier x y = y := by
      unfold earlier
      split
      · exact .inr rfl
      · exact .inl rfl
    have := ih (earlier x y)
    rw [List.foldl_cons]
    grind

theorem earliest_mem {l : List (Fin 4 × Context)} {x : Fin 4 × Context} (h : earliest l = some x) : x ∈ l := by
  cases l with
  | nil => cases h
  | cons y l => exact Option.some.inj h ▸ foldl_earlier_mem y l

theorem freeContext_isFree {a : Assembler} {k : Fin 4} (h : a.freeContext = some k) : a.contexts[k] = none := by
  unfold Assembler.freeContext at h
  simpa using List.find?_some h

/-- R94 to R97: an opening that is offered parks no hit. -/
theorem unaccounted_offerOpening (j : Channel) (h : OpenHit) (s : State) : (offerOpening j h s).unaccounted = s.unaccounted := by
  unfold offerOpening
  split
  · next k c found =>
    refine unaccounted_putContext_of_same ?_
    rw [mem_select (earliest_mem found), heldIn_some, heldIn_some, joinContext, heldBy_append, heldBy_cons, Member.held_open rfl]
    simp
  · split
    · split
      · next k free =>
        have isFree := freeContext_isFree free
        refine unaccounted_putContext_of_same ?_
        rw [isFree, heldIn_none, heldIn_some, openContext, heldBy_cons, Member.held_open rfl]
        simp
      · rw [unaccounted_modOpen, unaccounted_modAsm _ (by rfl)]
    · rfl

theorem unaccounted_judgeExpired (k : Fin 4) (s : State) : (judgeExpired k s).unaccounted = s.unaccounted := by
  unfold judgeExpired
  split
  · rfl
  · next c inUse =>
    split
    · rw [unaccounted_release, inUse, add_sub_cancel_right]
    · rw [unaccounted_testComplete, inUse, add_sub_cancel_right]

theorem mem_insertByTime {a x : Fin 4 × Context} {l : List (Fin 4 × Context)} (h : x ∈ insertByTime a l) : x = a ∨ x ∈ l := by
  induction l with
  | nil => exact .inl (List.mem_singleton.mp h)
  | cons b bs ih =>
    unfold insertByTime at h
    split at h
    · exact List.mem_cons.mp h
    · grind

theorem mem_byTime {x : Fin 4 × Context} {l : List (Fin 4 × Context)} (h : x ∈ byTime l) : x ∈ l := by
  have inserted : ∀ (l acc : List (Fin 4 × Context)), x ∈ l.foldl (fun acc a => insertByTime a acc) acc → x ∈ acc ∨ x ∈ l := by
    intro l
    induction l with
    | nil => exact fun acc h => .inl h
    | cons a l ih =>
      intro acc h
      rcases ih _ h with h | h
      · rcases mem_insertByTime h with h | h
        · exact .inr (h ▸ List.mem_cons_self)
        · exact .inl h
      · exact .inr (List.mem_cons_of_mem a h)
  exact (inserted l [] h).resolve_left List.not_mem_nil

/-- R99: contexts that become SETTLING hold what they held. -/
theorem unaccounted_settle (due : List (Fin 4 × Context)) (s : State)
    (held : ∀ a ∈ due, heldIn s.asm.contexts[a.1] = heldIn (some a.2)) :
    (due.foldl (fun s a => s.putContext a.1 (some { a.2 with settling := true })) s).unaccounted = s.unaccounted := by
  induction due generalizing s with
  | nil => rfl
  | cons a due ih =>
    have same : heldIn (some { a.2 with settling := true }) = heldIn s.asm.contexts[a.1] := (held a List.mem_cons_self).symm
    rw [List.foldl_cons, ih, unaccounted_putContext_of_same same]
    intro b hb
    rw [State.putContext_asm, ← held b (List.mem_cons_of_mem a hb), upd_get]
    split
    · next e => exact same.trans (by simp only [e])
    · rfl

theorem unaccounted_expireWindows (s : State) : (expireWindows s).unaccounted = s.unaccounted := by
  unfold expireWindows
  simp only
  rw [unaccounted_foldl_keeps fun s (a : Fin 4 × Context) => unaccounted_judgeExpired a.1 s, unaccounted_settle]
  intro a ha
  rw [mem_select (mem_byTime ha)]

theorem unaccounted_dissolveAll (s : State) : (dissolveAll s).unaccounted = s.unaccounted := by
  refine unaccounted_foldl_keeps (fun s k => ?_) contextNumbers s
  split
  · next c inUse => rw [unaccounted_dissolve, inUse, heldIn_some, add_sub_cancel_right]
  · rfl

end Sys2Proof.Machine
end

section
/-! R164: what the detectors, the sample row and the Acquisition Controller do to the hits that no account covers. A hit opens and closes
with the account kept: it is held while it is open, and a closure hands it on. -/

namespace Sys2Proof.Machine

/-! ## The detector -/

theorem Detector.closedHits_of_open {d : Detector} {h : OpenHit} (isOpen : d.machine = .inHit h) :
    d.closedHits = d.hitsOpened - 1 := by
  simp [Detector.closedHits, Detector.openCount, Detector.open?, isOpen]

theorem Detector.closedHits_of_notOpen {d : Detector} (notOpen : ∀ h, d.machine ≠ .inHit h) : d.closedHits = d.hitsOpened := by
  unfold Detector.closedHits Detector.openCount Detector.open?
  cases isOpen : d.machine with
  | inHit h => exact absurd isOpen (notOpen h)
  | idle => exact sub_zero _
  | rearmHold => exact sub_zero _
  | blocked => exact sub_zero _

theorem Detector.closedHits_block (d : Detector) : d.block.closedHits = d.closedHits := by
  by_cases isOpen : ∃ h, d.machine = .inHit h
  · obtain ⟨h, isOpen⟩ := isOpen
    unfold Detector.block
    rw [isOpen]
  · have notOpen := not_exists.mp isOpen
    rw [Detector.block_closed notOpen, closedHits_of_notOpen notOpen]
    exact closedHits_of_notOpen (by simp)

theorem Detector.closedHits_unblock (acq : Acq) (d : Detector) : (d.unblock acq).closedHits = d.closedHits := by
  unfold Detector.unblock
  cases h : d.machine with
  | blocked =>
    simp only
    split
    · rw [closedHits_of_notOpen (d := d) (by simp [h])]
      exact closedHits_of_notOpen (by intro k; split <;> simp)
    · rfl
  | idle => rfl
  | inHit k => rfl
  | rearmHold => rfl

/-- R48: a closure lets go of the open hit. -/
theorem Detector.closedHits_afterClosure {d : Detector} {h : OpenHit} (rearms : Bool) (isOpen : d.machine = .inHit h) :
    (d.afterClosure rearms).closedHits = d.closedHits + 1 := by
  rw [closedHits_of_open isOpen, sub_add_cancel]
  exact closedHits_of_notOpen (by intro k; cases rearms <;> simp [Detector.afterClosure])

theorem Detector.closedHits_learn (delivered : Option Sample) (d : Detector) : (d.learn delivered).closedHits = d.closedHits := by
  cases delivered <;> rfl

theorem unaccounted_applyEntry (ch : Channel) (e : ChannelEntry) (s : State) :
    (applyEntry ch e s).unaccounted = s.unaccounted := by
  have entered : (s.modDet ch (Detector.withEntry e)).unaccounted = s.unaccounted := unaccounted_modDet_of_keeps rfl
  unfold applyEntry
  simp only
  split
  · rw [unaccounted_modLane, entered]
  · rw [unaccounted_modDet_of_keeps (Detector.closedHits_block _), unaccounted_modLane, entered]

theorem unaccounted_applyWaiting (ch : Channel) (s : State) : (applyWaiting ch s).unaccounted = s.unaccounted := by
  unfold applyWaiting
  split
  · exact unaccounted_applyEntry ch _ s
  · rfl

theorem unaccounted_blockDetector (ch : Channel) (s : State) : (blockDetector ch s).unaccounted = s.unaccounted := by
  unfold blockDetector
  split
  · rfl
  all_goals rw [unaccounted_applyWaiting, unaccounted_modDet_of_keeps (Detector.closedHits_block _)]

/-! ## Closures -/

/-- R82: the context of which a hit is a member has it as an open member. -/
theorem memberOf_isMember {a : Assembler} {ch : Channel} {hitId : Counter} {k : Fin 4} {c : Context}
    (found : a.memberOf ch hitId = some k) (inUse : a.contexts[k] = some c) :
    c.members.any (Member.isOpenHit ch hitId) = true := by
  unfold Assembler.memberOf at found
  have := List.find?_some found
  rwa [inUse] at this

/-- R83. -/
theorem unaccounted_rejectHit (c : ClosedHit) (s : State) : (rejectHit c s).unaccounted = s.unaccounted - oneHit c.channel := by
  have counted : (s.modCounts c.channel fun k => { k with filtered := k.filtered + 1 }).unaccounted
      = s.unaccounted - oneHit c.channel := by
    refine unaccounted_of_fate rfl rfl ?_ fun j hj => ?_
    · simp only [State.modCounts_rq, upd_same, fates_filtered]
    · simp only [State.modCounts_rq, upd_other _ _ _ _ (Ne.symm hj)]
  unfold rejectHit
  simp only
  split
  · rw [unaccounted_freeSegmentOf, counted]
  · split
    · next inUse => rw [unaccounted_removeMember _ _ inUse, unaccounted_freeSegmentOf, counted]
    · rw [unaccounted_freeSegmentOf, counted]

/-- R82. -/
theorem unaccounted_passHit (c : ClosedHit) (s : State) : (passHit c s).unaccounted = s.unaccounted - oneHit c.channel := by
  unfold passHit
  split
  · exact unaccounted_offerStandalone _ c s
  · next found =>
    split
    · next inUse => exact unaccounted_parkMember inUse (memberOf_isMember found inUse)
    · exact unaccounted_offerStandalone _ c s

/-- R50: a closed hit that is handed on is accounted for. -/
theorem unaccounted_handOn (c : ClosedHit) (s : State) : (handOn c s).unaccounted = s.unaccounted - oneHit c.channel := by
  unfold handOn
  simp only
  split
  · rw [unaccounted_rejectHit, unaccounted_segmentFillEnd]
  · rw [unaccounted_passHit, unaccounted_segmentFillEnd]

theorem unaccounted_continuousRun (ch : Channel) (cause : Closure) (s : State) :
    (continuousRun ch cause s).unaccounted = s.unaccounted := by
  have counted (f : Detector → Nat) : (s.modDet ch fun d => { d with contRun := f d }).unaccounted = s.unaccounted :=
    unaccounted_modDet_of_keeps rfl
  unfold continuousRun
  split
  · simp only
    split
    · rw [unaccounted_raise, counted]
    · rw [counted]
  all_goals exact counted fun _ => 0

/-- R50: what a closure takes from the detector it hands on. -/
theorem unaccounted_closeHit (ch : Channel) (tick : TestTime) (cause : Closure) (s : State) :
    (closeHit ch tick cause s).unaccounted = s.unaccounted := by
  unfold closeHit
  split
  · next h isOpen =>
    have handed : (continuousRun ch cause (handOn (closedHitOf ch s.dets[ch].active tick cause h)
        (s.modDet ch (Detector.afterClosure (cause.rearms s.acq))))).unaccounted = s.unaccounted := by
      rw [unaccounted_continuousRun, unaccounted_handOn,
        unaccounted_modDet_of_closes (Detector.closedHits_afterClosure _ isOpen), closedHitOf, add_sub_cancel_right]
    simp only
    split
    · exact handed
    · rw [unaccounted_applyWaiting]; exact handed
  all_goals rfl

/-! ## Samples -/

@[simp] theorem unaccounted_raiseGuards (e : ChannelEntry) (s : State) : (raiseGuards e s).unaccounted = s.unaccounted := rfl

/-- R43, R45: an opening counts its hit and holds it. -/
theorem unaccounted_openHit {ch : Channel} (smp : Sample) (hitId : Counter) {s : State}
    (notOpen : ∀ h, s.dets[ch].machine ≠ .inHit h) : (openHit ch smp hitId s).unaccounted = s.unaccounted := by
  have opened (hit : OpenHit) (next : Option Counter) : (({ s with nextHit := next } : State).modDet ch fun d =>
      { d with machine := .inHit hit, hitsOpened := d.hitsOpened + 1 }).unaccounted = s.unaccounted := by
    refine unaccounted_modDet_of_keeps ?_
    rw [Detector.closedHits_of_notOpen notOpen, Detector.closedHits_of_open rfl, add_sub_cancel_right]
  unfold openHit
  simp only
  split
  · rw [unaccounted_raiseGuards, unaccounted_modFigures, unaccounted_segmentFill, unaccounted_decideCapture, opened]
  · rw [unaccounted_modFigures, unaccounted_segmentFill, unaccounted_decideCapture, opened]

theorem unaccounted_takeInHit (ch : Channel) (smp : Sample) (h : OpenHit) (s : State) :
    (takeInHit ch smp h s).state.unaccounted = s.unaccounted := by
  unfold takeInHit
  simp only
  split
  · rw [unaccounted_closeHit, unaccounted_segmentFill, unaccounted_modOpen]
  · rw [unaccounted_segmentFill, unaccounted_modOpen]

theorem unaccounted_takeIdle {ch : Channel} (smp : Sample) {s : State} (notOpen : ∀ h, s.dets[ch].machine ≠ .inHit h) :
    (takeIdle ch smp s).state.unaccounted = s.unaccounted := by
  unfold takeIdle
  split
  · split
    · exact unaccounted_openHit smp _ notOpen
    · rfl
  · rfl

theorem unaccounted_takeSample (ch : Channel) (smp : Sample) (s : State) :
    (takeSample ch smp s).state.unaccounted = s.unaccounted := by
  have unblocked : (s.modDet ch (Detector.unblock s.acq)).unaccounted = s.unaccounted :=
    unaccounted_modDet_of_keeps (Detector.closedHits_unblock _ _)
  unfold takeSample
  simp only
  split
  · next idle => rw [unaccounted_takeIdle smp (by rw [idle]; simp), unblocked]
  · rw [unaccounted_takeInHit, unblocked]
  all_goals exact unblocked

/-! ## The row -/

theorem unaccounted_departLive (ch : Channel) (s : State) : (departLive ch s).unaccounted = s.unaccounted := by
  unfold departLive
  split
  · exact unaccounted_closeHit ch _ _ s
  all_goals exact unaccounted_blockDetector ch s

theorem unaccounted_laneFaulted (ch : Channel) (wasLive : Bool) (s : State) :
    (laneFaulted ch wasLive s).unaccounted = s.unaccounted := by
  unfold laneFaulted
  simp only
  split
  · rw [unaccounted_departLive, unaccounted_raise]
  · rw [unaccounted_raise]

theorem unaccounted_learnTick (ch : Channel) (delivered : Option Sample) (s : State) :
    (learnTick ch delivered s).unaccounted = s.unaccounted := by
  unfold learnTick
  split
  · exact unaccounted_modDet_of_keeps (Detector.closedHits_learn _ _)
  all_goals rfl

theorem unaccounted_takeDelivered (ch : Channel) (wasLive : Bool) (r : LaneTick) (s : State) :
    (takeDelivered ch wasLive r s).state.unaccounted = s.unaccounted := by
  unfold takeDelivered
  split
  · next smp _ => exact unaccounted_takeSample ch smp s
  · simp only
    split
    · exact unaccounted_laneFaulted ch wasLive s
    · rfl

theorem unaccounted_takeChannel (words : Vector LaneWord 16) (ch : Channel) (s : State) :
    (takeChannel words ch s).state.unaccounted = s.unaccounted := by
  unfold takeChannel
  simp only
  generalize s.lanes[ch].beginTick.isLive = wasLive
  generalize s.lanes[ch].tick s.tables.setup.settleMs words[ch] = r
  generalize reported : (if r.entered = true then ringClear ch (s.modLane ch fun _ => r.lane)
    else s.modLane ch fun _ => r.lane) = u
  have same : u.unaccounted = s.unaccounted := by
    subst reported
    split <;> rfl
  split
  · rw [unaccounted_learnTick, unaccounted_takeDelivered, same]
  · rw [unaccounted_modDet_of_keeps (by rfl), unaccounted_learnTick, unaccounted_takeDelivered, same]

theorem unaccounted_takeRow (words : Vector LaneWord 16) (chs : List Channel) (acc : State × List Channel) :
    (takeRow words chs acc).1.unaccounted = acc.1.unaccounted := by
  induction chs generalizing acc with
  | nil => rfl
  | cons ch chs ih => exact (ih _).trans (unaccounted_takeChannel words ch acc.1)

theorem unaccounted_judgeOpening (ch : Channel) (s : State) : (judgeOpening ch s).unaccounted = s.unaccounted := by
  unfold judgeOpening
  split
  · split
    · rw [unaccounted_modCounts_of_keeps (by rfl), unaccounted_modOpen]
    · exact unaccounted_offerOpening ch _ s
  all_goals rfl

theorem unaccounted_endOfTick (s : State) : (endOfTick s).unaccounted = s.unaccounted := rfl

theorem unaccounted_releaseOpenings (openings : List Channel) (s : State) :
    (releaseOpenings openings s).unaccounted = s.unaccounted :=
  unaccounted_foldl_keeps (fun s ch => unaccounted_judgeOpening ch s) openings s

theorem unaccounted_rowTaken (words : Vector LaneWord 16) (s : State) : (rowTaken words s).unaccounted = s.unaccounted := by
  unfold rowTaken
  simp only
  rw [unaccounted_endOfTick, unaccounted_releaseOpenings, unaccounted_takeRow]

end Sys2Proof.Machine
end

section
/-! R164: no state of the Acquisition Controller, no request, no expiry and no frame moves the hits that no account covers, but for the
resets, after which every account is empty. -/

namespace Sys2Proof.Machine

/-! ## Entries to OFF -/

theorem unaccounted_reachState (s : State) : (reachState s).unaccounted = s.unaccounted := unaccounted_setFactor _ _ _ s

theorem unaccounted_detectorOff (reason : OffReason) (ch : Channel) (s : State) :
    (detectorOff reason ch s).unaccounted = s.unaccounted := by
  unfold detectorOff
  split
  · exact unaccounted_closeHit ch _ _ s
  all_goals exact unaccounted_blockDetector ch s

/-- Every detector changed in a way that closes no hit. -/
theorem unaccounted_tabulateDets {s t : State} (f : Detector → Detector) (closed : ∀ d, (f d).closedHits = d.closedHits)
    (dets : t.dets = tabulate fun ch => f s.dets[ch]) (counts : t.rq.counts = s.rq.counts)
    (contexts : t.asm.contexts = s.asm.contexts) : t.unaccounted = s.unaccounted :=
  unaccounted_congr (fun ch => by rw [dets, tabulate_get, closed]) (fun _ => by rw [counts]) contexts

theorem unaccounted_leaveForOff (s : State) : (leaveForOff s).unaccounted = s.unaccounted := by
  unfold leaveForOff
  split
  · exact unaccounted_tabulateDets Detector.dropLearning (fun _ => rfl) rfl rfl rfl
  all_goals rfl

theorem unaccounted_dissolves (reason : OffReason) (s : State) : (reason.dissolves s).unaccounted = s.unaccounted := by
  cases reason with
  | off => rfl
  | abort => exact unaccounted_dissolveAll s
  | clock => exact unaccounted_dissolveAll s

theorem unaccounted_stopClock (s : State) : (stopClock s).unaccounted = s.unaccounted := rfl

theorem unaccounted_stopTimer (s : State) : (stopTimer s).unaccounted = s.unaccounted := rfl

/-- R28. -/
theorem unaccounted_enterOff (reason : OffReason) (s : State) : (enterOff reason s).unaccounted = s.unaccounted := by
  unfold enterOff
  simp only
  rw [unaccounted_stopTimer, unaccounted_stopClock, unaccounted_dissolves,
    unaccounted_foldl_keeps fun s ch => unaccounted_detectorOff reason ch s, unaccounted_leaveForOff]

/-! ## Starting, learning, draining -/

theorem unaccounted_failStart (cause : StartFailure) (s : State) : (failStart cause s).unaccounted = s.unaccounted := by
  have left := unaccounted_enterOff .off s
  unfold failStart
  generalize enterOff .off s = u at left ⊢
  exact (unaccounted_setFactor _ _ _ _).trans left

theorem unaccounted_enterStarting (target : StartTarget) (s : State) : (enterStarting target s).unaccounted = s.unaccounted := by
  unfold enterStarting requestStart
  split <;> rfl

theorem unaccounted_achieveLock (s : State) : (achieveLock s).unaccounted = s.unaccounted := rfl

theorem unaccounted_failLock (s : State) : (failLock s).unaccounted = s.unaccounted := by
  unfold failLock
  rw [unaccounted_failStart, unaccounted_raise]
  rfl

theorem unaccounted_loseLock (s : State) : (loseLock s).unaccounted = s.unaccounted := by
  unfold loseLock
  rw [unaccounted_enterOff, unaccounted_raise]
  rfl

theorem unaccounted_endSyncing (target : StartTarget) (s : State) : (endSyncing target s).unaccounted = s.unaccounted := by
  unfold endSyncing
  split
  · rfl
  · exact unaccounted_failStart _ s

theorem unaccounted_startTimer (s : State) : (startTimer s).unaccounted = s.unaccounted := by
  unfold startTimer
  split <;> rfl

theorem unaccounted_enterLearning (s : State) : (enterLearning s).unaccounted = s.unaccounted :=
  unaccounted_tabulateDets Detector.beginLearning (fun _ => rfl) rfl rfl rfl

theorem unaccounted_enterStandby (s : State) : (enterStandby s).unaccounted = s.unaccounted := by
  unfold enterStandby
  rw [unaccounted_reachState, unaccounted_startTimer]
  rfl

theorem unaccounted_endSettling (target : StartTarget) (s : State) : (endSettling target s).unaccounted = s.unaccounted := by
  cases target with
  | standby => exact unaccounted_enterStandby s
  | armed => exact (unaccounted_enterLearning _).trans (unaccounted_startTimer s)

theorem unaccounted_learnChannel (ch : Channel) (s : State) : (learnChannel ch s).unaccounted = s.unaccounted := by
  have learned : (s.modDet ch Detector.learned).unaccounted = s.unaccounted := unaccounted_modDet_of_keeps rfl
  unfold learnChannel
  simp only
  split
  · rw [unaccounted_raise, learned]
  · exact learned

theorem unaccounted_enterArmed (s : State) : (enterArmed s).unaccounted = s.unaccounted :=
  unaccounted_reachState _

theorem unaccounted_endLearning (s : State) : (endLearning s).unaccounted = s.unaccounted := by
  unfold endLearning
  rw [unaccounted_enterArmed, unaccounted_foldl_keeps fun s ch => unaccounted_learnChannel ch s]

theorem unaccounted_reachDrainTarget (target : DrainTarget) (s : State) :
    (reachDrainTarget target s).unaccounted = s.unaccounted := by
  cases target with
  | standby => exact unaccounted_enterStandby s
  | off => exact (unaccounted_reachState _).trans (unaccounted_enterOff .off s)

theorem unaccounted_checkDrain (s : State) : (checkDrain s).unaccounted = s.unaccounted := by
  unfold checkDrain
  split
  · split
    · exact unaccounted_reachDrainTarget _ s
    · rfl
  all_goals rfl

theorem unaccounted_enterDraining (target : DrainTarget) (s : State) : (enterDraining target s).unaccounted = s.unaccounted := by
  unfold enterDraining
  rw [unaccounted_checkDrain, unaccounted_foldl_keeps fun s ch => unaccounted_blockDetector ch s]
  rfl

/-! ## The answers of the owners -/

@[simp] theorem Answer.controlled_state (s : State) (c : Code) : (Answer.controlled s c).state = s := rfl

@[simp] theorem Answer.plain_state (s : State) (c : Code) : (Answer.plain s c).state = s := rfl

theorem unaccounted_goStandby (s : State) : (goStandby s).state.unaccounted = s.unaccounted := by
  unfold goStandby
  split <;> rw [Answer.controlled_state]
  · exact unaccounted_enterStarting _ s
  · exact unaccounted_enterDraining _ s

theorem unaccounted_goArmed (s : State) : (goArmed s).state.unaccounted = s.unaccounted := by
  unfold goArmed
  split
  · split <;> rw [Answer.controlled_state]
    · exact unaccounted_enterStarting _ s
    · exact unaccounted_enterLearning s
  · rfl

theorem unaccounted_goOff (s : State) : (goOff s).state.unaccounted = s.unaccounted := by
  have stopped : (reachState (enterOff .off s)).unaccounted = s.unaccounted :=
    (unaccounted_reachState _).trans (unaccounted_enterOff .off s)
  unfold goOff
  split <;> rw [Answer.controlled_state]
  · exact stopped
  · exact stopped
  · exact stopped
  · exact unaccounted_enterDraining _ s
  · rfl

theorem unaccounted_abort (s : State) : (abort s).state.unaccounted = s.unaccounted :=
  (unaccounted_raise _ _).trans (unaccounted_enterOff .abort s)

theorem unaccounted_zeroTime (s : State) : (zeroTime s).state.unaccounted = s.unaccounted := by
  unfold zeroTime
  split <;> rfl

theorem unaccounted_abandonLoad (s : State) : (abandonLoad s).unaccounted = s.unaccounted := unaccounted_raise _ _

theorem unaccounted_handEntry (ch : Channel) (s : State) : (handEntry ch s).unaccounted = s.unaccounted := by
  unfold handEntry deferEntry
  simp only
  split
  · split
    · exact unaccounted_applyEntry ch _ s
    · exact unaccounted_applyEntry ch _ s
    · exact unaccounted_modDet_of_keeps rfl
    · exact unaccounted_modDet_of_keeps rfl
  all_goals exact unaccounted_applyEntry ch _ s

theorem unaccounted_retime (s : State) : (retime s).unaccounted = s.unaccounted := by
  unfold retime
  split
  · exact unaccounted_startTimer s
  · rfl

theorem unaccounted_handTable (t : TableId) (first count : Nat) (old : Tables) (s : State) :
    (handTable t first count old s).unaccounted = s.unaccounted := by
  unfold handTable
  split
  · exact unaccounted_foldl_keeps (fun s ch => unaccounted_handEntry ch s) _ s
  · split
    · exact unaccounted_retime s
    · rfl
  all_goals rfl

theorem unaccounted_commitLoad (l : Load) (tables : Tables) (s : State) : (commitLoad l tables s).unaccounted = s.unaccounted := by
  unfold commitLoad
  simp only
  rw [unaccounted_raise, unaccounted_handTable]
  rfl

theorem unaccounted_endLoad (l : Load) (s : State) : (endLoad l s).state.unaccounted = s.unaccounted := by
  unfold endLoad
  split
  · simp only
    split
    · exact unaccounted_abandonLoad s
    · exact unaccounted_commitLoad l _ s
  · exact unaccounted_abandonLoad s

theorem unaccounted_loadBegin (t : TableId) (first count : Nat) (s : State) :
    (loadBegin t first count s).state.unaccounted = s.unaccounted := by
  unfold loadBegin
  iterate 5 (split; · rfl)
  rfl

theorem unaccounted_loadData (t : TableId) (count : Nat) (entries : List Byte) (s : State) :
    (loadData t count entries s).state.unaccounted = s.unaccounted := by
  unfold loadData stageEntries
  split
  · rfl
  · split
    · exact unaccounted_abandonLoad s
    · split
      · exact unaccounted_abandonLoad s
      · simp only
        split
        · rfl
        · rw [unaccounted_endLoad]
          rfl

theorem unaccounted_loadAbort (s : State) : (loadAbort s).state.unaccounted = s.unaccounted := by
  unfold loadAbort
  split
  · exact unaccounted_abandonLoad s
  · rfl

theorem unaccounted_readTable (t : TableId) (first count : Nat) (s : State) :
    (readTable t first count s).state.unaccounted = s.unaccounted := by
  unfold readTable
  split <;> rfl

theorem unaccounted_lockTest (s : State) : (lockTest s).state.unaccounted = s.unaccounted := by
  unfold lockTest
  split
  · rfl
  · split
    · rfl
    · exact unaccounted_raise _ _

theorem unaccounted_unlockTest (s : State) : (unlockTest s).state.unaccounted = s.unaccounted := by
  unfold unlockTest
  split
  · rfl
  · split
    · exact unaccounted_raise _ _
    · rfl

theorem unaccounted_statusRead (page : Byte) (s : State) : (statusRead page s).state.unaccounted = s.unaccounted := by
  unfold statusRead
  split <;> rfl

theorem unaccounted_setPhase (p : Phase) (s : State) : (setPhase p s).state.unaccounted = s.unaccounted := by
  unfold setPhase
  split <;> rfl

/-! ## The judgement of a request -/

theorem unaccounted_judgeEmpty {f : State → Answer} {s : State} (h : (f s).state.unaccounted = s.unaccounted) (args : List Byte) :
    (judgeEmpty f args s).state.unaccounted = s.unaccounted := by
  cases args with
  | nil => exact h
  | cons a args => rfl

theorem unaccounted_judgeGo (args : List Byte) (s : State) : (judgeGo args s).state.unaccounted = s.unaccounted := by
  unfold judgeGo
  split
  · split
    · exact unaccounted_goOff s
    · exact unaccounted_goStandby s
    · exact unaccounted_goArmed s
    · rfl
  · rfl

theorem unaccounted_judgeAbort (args : List Byte) (s : State) : (judgeAbort args s).state.unaccounted = s.unaccounted := by
  cases args with
  | nil => exact unaccounted_abort s
  | cons a args => rfl

theorem unaccounted_judgeTable {f : TableId → Nat → Nat → State → Answer} {s : State}
    (h : ∀ t first count, (f t first count s).state.unaccounted = s.unaccounted) (args : List Byte) :
    (judgeTable f args s).state.unaccounted = s.unaccounted := by
  unfold judgeTable
  split
  · split
    · exact h _ _ _
    · rfl
  · rfl

theorem unaccounted_judgeLoadData (args : List Byte) (s : State) : (judgeLoadData args s).state.unaccounted = s.unaccounted := by
  unfold judgeLoadData
  split
  · split
    · rfl
    · split
      · rfl
      · split
        · exact unaccounted_loadData _ _ _ s
        · rfl
  all_goals rfl

theorem unaccounted_judgeStatus (args : List Byte) (s : State) : (judgeStatus args s).state.unaccounted = s.unaccounted := by
  unfold judgeStatus
  split
  · exact unaccounted_statusRead _ s
  · rfl

theorem unaccounted_judgeClear (args : List Byte) (s : State) : (judgeClear args s).state.unaccounted = s.unaccounted := by
  unfold judgeClear
  split
  · split <;> rfl
  · rfl

theorem unaccounted_judgeEnables (args : List Byte) (s : State) : (judgeEnables args s).state.unaccounted = s.unaccounted := by
  unfold judgeEnables rangeEnables
  split
  · split
    · split
      · rfl
      · split
        · rfl
        · split <;> rfl
    · rfl
  all_goals rfl

theorem unaccounted_judgePhase (args : List Byte) (s : State) : (judgePhase args s).state.unaccounted = s.unaccounted := by
  unfold judgePhase
  split
  · split
    · exact unaccounted_setPhase _ s
    · rfl
  · rfl

/-! ## Balanced accounts -/

theorem State.Balanced.of_unaccounted {s t : State} (hs : s.Balanced) (h : t.unaccounted = s.unaccounted) : t.Balanced :=
  balanced_iff.mpr (h.trans (balanced_iff.mp hs))

/-- Accounts of a part that has opened no hit and holds none balance. -/
theorem balanced_of_cleared {s : State} (dets : ∀ ch : Channel, s.dets[ch].closedHits = 0)
    (fates : ∀ ch : Channel, s.rq.counts[ch].fates = 0) (contexts : s.asm = Assembler.reset) : s.Balanced := by
  have noneHeld : heldInAll Assembler.reset.contexts = 0 := by
    simp [heldInAll, Assembler.reset]
  refine balanced_iff.mpr (funext fun ch => ?_)
  rw [unaccounted_apply, dets, fates, contexts, noneHeld, Pi.zero_apply, sub_zero, sub_zero]

theorem Detector.closedHits_reset (e : ChannelEntry) : (Detector.reset e).closedHits = 0 :=
  Detector.closedHits_of_notOpen (by simp [Detector.reset])

theorem balanced_powerOn (pending : List Instr) : ({ State.reset with pending := pending } : State).Balanced := by
  refine balanced_of_cleared (fun ch => ?_) (fun ch => ?_) rfl
  · simp only [State.reset, tabulate_get, Detector.closedHits_reset]
  · simp only [State.reset, RecordQueues.reset, tabulate_get]; rfl

/-- R165, R178: a soft reset leaves no account with a hit in it. -/
theorem balanced_softReset (s : State) : (softReset s).Balanced := by
  refine balanced_of_cleared (fun ch => ?_) (fun ch => ?_) rfl
  · simp only [softReset, tabulate_get, Detector.closedHits_reset]
  · simp only [softReset, RecordQueues.softReset, RecordQueues.reset, tabulate_get]; rfl

theorem softReset_judged_balanced (args : List Byte) {s : State} (hs : s.Balanced) :
    (judgeEmpty (fun s => Answer.plain (softReset s) .ok) args s).state.Balanced := by
  cases args with
  | nil => exact balanced_softReset s
  | cons a args => exact hs

/-- R169, R170: every request but SOFT_RESET leaves the figure, and SOFT_RESET leaves nothing to account for. -/
theorem judge_balanced (r : Request) {s : State} (hs : s.Balanced) : (judge r s).state.Balanced := by
  unfold judge
  split
  · exact hs.of_unaccounted (unaccounted_judgeEmpty (f := identify) rfl _)
  · exact hs.of_unaccounted (unaccounted_judgeGo _ s)
  · exact hs.of_unaccounted (unaccounted_judgeAbort _ s)
  · exact hs.of_unaccounted (unaccounted_judgeEmpty (unaccounted_zeroTime s) _)
  · exact hs.of_unaccounted (unaccounted_judgeTable (fun t first count => unaccounted_loadBegin t first count s) _)
  · exact hs.of_unaccounted (unaccounted_judgeLoadData _ s)
  · exact hs.of_unaccounted (unaccounted_judgeEmpty (unaccounted_loadAbort s) _)
  · exact hs.of_unaccounted (unaccounted_judgeTable (fun t first count => unaccounted_readTable t first count s) _)
  · exact hs.of_unaccounted (unaccounted_judgeEmpty (unaccounted_lockTest s) _)
  · exact hs.of_unaccounted (unaccounted_judgeEmpty (unaccounted_unlockTest s) _)
  · exact hs.of_unaccounted (unaccounted_judgeStatus _ s)
  · exact hs.of_unaccounted (unaccounted_judgeClear _ s)
  · exact hs.of_unaccounted (unaccounted_judgeEnables _ s)
  · exact hs.of_unaccounted (unaccounted_judgePhase _ s)
  · exact hs.of_unaccounted (unaccounted_judgeEmpty (f := resetLoadHistory) rfl _)
  · exact softReset_judged_balanced _ hs
  · exact hs

/-! ## The end of an event -/

theorem unaccounted_scheduleWaveform (s : State) : (scheduleWaveform s).unaccounted = s.unaccounted := by
  unfold scheduleWaveform
  split
  · rfl
  · split
    · exact unaccounted_evalShed _
    · rfl

theorem unaccounted_scheduleInterval (s : State) : (scheduleInterval s).unaccounted = s.unaccounted := by
  unfold scheduleInterval
  split
  · rfl
  · exact unaccounted_scheduleWaveform s

theorem unaccounted_scheduleHits (s : State) : (scheduleHits s).unaccounted = s.unaccounted := by
  unfold scheduleHits
  split
  · exact unaccounted_evalShed _
  · exact unaccounted_scheduleInterval s

theorem unaccounted_scheduleEvents (s : State) : (scheduleEvents s).unaccounted = s.unaccounted := by
  unfold scheduleEvents
  split
  · rfl
  · exact unaccounted_scheduleHits s

theorem unaccounted_scheduleNotices (s : State) : (scheduleNotices s).unaccounted = s.unaccounted := by
  unfold scheduleNotices
  split
  · exact unaccounted_scheduleEvents s
  · rfl

/-- R157: a frame that starts takes records from their queues and none from an account. -/
theorem unaccounted_schedule (s : State) : (schedule s).unaccounted = s.unaccounted := by
  unfold schedule scheduleFrom
  split
  · split
    · rfl
    · exact unaccounted_scheduleNotices s
  · rfl

theorem takeRequest_balanced (r : Request) {s : State} (hs : s.Balanced) : (takeRequest r s).Balanced :=
  (judge_balanced r (s := countTaken s) hs).of_unaccounted rfl

theorem pump_balanced (n : Nat) {s : State} (hs : s.Balanced) : (pump n s).Balanced := by
  induction n generalizing s with
  | zero => exact hs.of_unaccounted (unaccounted_schedule s)
  | succ n ih =>
    have scheduled : (schedule s).Balanced := hs.of_unaccounted (unaccounted_schedule s)
    unfold pump
    simp only
    split
    · exact scheduled
    · next r rest _ =>
      split
      · exact ih (takeRequest_balanced r (scheduled.of_unaccounted rfl))
      · exact scheduled

/-- R157, R169: the scheduler and the interpreter keep the accounts balanced. -/
theorem finish_balanced {s : State} (hs : s.Balanced) : (finish s).Balanced := pump_balanced _ hs

theorem unaccounted_offerRequest (r : Request) (s : State) : (offerRequest r s).unaccounted = s.unaccounted := by
  unfold offerRequest
  split
  · rfl
  · exact unaccounted_raise _ _

theorem submit_balanced (r : Request) {s : State} (hs : s.Balanced) : (submit r s).Balanced :=
  finish_balanced (hs.of_unaccounted (unaccounted_offerRequest r s))

theorem unaccounted_endFrame (wire : List Byte) (s : State) : (endFrame wire s).unaccounted = s.unaccounted := by
  unfold endFrame
  split
  · exact unaccounted_offerRequest _ s
  · exact unaccounted_raise _ _

theorem unaccounted_completeFrame (s : State) : (completeFrame s).unaccounted = s.unaccounted := by
  unfold completeFrame
  split <;> rfl

/-! ## Expiries and the tick -/

/-- An expiry whose effect leaves the figure keeps the accounts balanced, with what the end of its event does. -/
theorem takeDue_balanced {due : State → Bool} {effect : State → State} {s : State}
    (h : due s = true → (effect s).unaccounted = s.unaccounted) (hs : s.Balanced) : (takeDue due effect s).Balanced := by
  unfold takeDue
  split
  · next isDue => exact finish_balanced (hs.of_unaccounted (h isDue))
  · exact hs

theorem takeEach_balanced {due : Channel → State → Bool} {effect : Channel → State → State}
    (h : ∀ ch s, due ch s = true → (effect ch s).unaccounted = s.unaccounted) {s : State} (hs : s.Balanced) :
    (takeEach due effect s).Balanced := by
  unfold takeEach
  generalize channels = chs
  induction chs generalizing s with
  | nil => exact hs
  | cons ch chs ih => exact ih (takeDue_balanced (h ch s) hs)

theorem unaccounted_failSync (ch : Channel) (s : State) : (failSync ch s).unaccounted = s.unaccounted :=
  unaccounted_laneFaulted ch false _

/-- R51: a rearm hold that ends has no open hit. -/
theorem unaccounted_endRearm {ch : Channel} {s : State} (isDue : rearmDue ch s = true) :
    (endRearm ch s).unaccounted = s.unaccounted := by
  have held : s.dets[ch].machine = .rearmHold := by
    simp only [rearmDue, Detector.rearmDue, Bool.and_eq_true, beq_iff_eq] at isDue
    exact isDue.1
  unfold endRearm
  rw [unaccounted_applyWaiting, unaccounted_modDet_of_keeps]
  rw [Detector.closedHits_of_notOpen (d := s.dets[ch]) (by rw [held]; simp)]
  exact Detector.closedHits_of_notOpen (by simp)

theorem unaccounted_endSyncingSubstep (s : State) : (endSyncingSubstep s).unaccounted = s.unaccounted := by
  unfold endSyncingSubstep
  split
  · exact unaccounted_endSyncing _ s
  all_goals rfl

theorem unaccounted_endSettlingSubstep (s : State) : (endSettlingSubstep s).unaccounted = s.unaccounted := by
  unfold endSettlingSubstep
  split
  · exact unaccounted_endSettling _ s
  all_goals rfl

theorem unaccounted_endSlot (s : State) : (endSlot s).unaccounted = s.unaccounted := by
  unfold endSlot
  simp only
  generalize (if s.pl.slotFilled = true then s.pl.missingRun else min (s.pl.missingRun + 1) staleRun) = run
  generalize (!s.pl.slotFilled && decide (staleRun ≤ run) && s.pl.state != .stale) = stale
  cases stale with
  | false => rfl
  | true => exact (unaccounted_raise _ _).trans rfl

theorem unaccounted_expireInterval (s : State) : (expireInterval s).unaccounted = s.unaccounted := rfl

theorem unaccounted_lastTick (s : State) : (lastTick s).unaccounted = s.unaccounted :=
  unaccounted_tabulateDets Detector.lowerRearm (fun _ => rfl) rfl rfl rfl

theorem unaccounted_expireDueWindows (s : State) : (expireDueWindows s).unaccounted = s.unaccounted := by
  have drained : (checkDrain (expireWindows s)).unaccounted = s.unaccounted := by
    rw [unaccounted_checkDrain, unaccounted_expireWindows]
  unfold expireDueWindows drainAtTickStart
  simp only
  split
  · exact drained
  · rw [unaccounted_lastTick, drained]

theorem takeSyncTimeouts_balanced {s : State} (hs : s.Balanced) : (takeSyncTimeouts s).Balanced :=
  takeEach_balanced (fun ch s _ => unaccounted_failSync ch s) hs

theorem takeSyncingEnd_balanced {s : State} (hs : s.Balanced) : (takeSyncingEnd s).Balanced :=
  takeDue_balanced (fun _ => unaccounted_endSyncingSubstep _) (takeSyncTimeouts_balanced hs)

theorem tickExpiries_balanced {s : State} (hs : s.Balanced) : (tickExpiries s).Balanced := by
  have settled := takeEach_balanced (due := laneSettleDue) (effect := settleLane) (fun _ _ _ => rfl) (takeSyncTimeouts_balanced hs)
  have rearmed := takeEach_balanced (due := rearmDue) (effect := endRearm) (fun _ _ => unaccounted_endRearm) settled
  have slotted := takeDue_balanced (due := State.plSlotDue) (fun _ => unaccounted_endSlot _)
    (takeDue_balanced (due := State.intervalDue) (fun _ => unaccounted_expireInterval _) rearmed)
  have started := takeDue_balanced (due := State.settlingDue) (fun _ => unaccounted_endSettlingSubstep _)
    (takeDue_balanced (due := State.syncingDue) (fun _ => unaccounted_endSyncingSubstep _) slotted)
  exact takeDue_balanced (due := State.windowDue) (fun _ => unaccounted_expireDueWindows _)
    (takeDue_balanced (due := State.learningDue) (fun _ => unaccounted_endLearning _) started)

theorem unaccounted_advanceTime (s : State) : (advanceTime s).unaccounted = s.unaccounted := rfl

theorem unaccounted_tickRow (words : Vector LaneWord 16) (s : State) : (tickRow words s).unaccounted = s.unaccounted := by
  unfold tickRow
  rw [unaccounted_advanceTime, unaccounted_checkDrain, unaccounted_rowTaken]

theorem takeTick_balanced (words : Vector LaneWord 16) {s : State} (hs : s.Balanced) : (takeTick words s).Balanced := by
  unfold takeTick
  split
  · simp only
    split
    · exact finish_balanced ((tickExpiries_balanced hs).of_unaccounted (unaccounted_tickRow words _))
    · exact tickExpiries_balanced hs
  · exact hs

/-! ## The link clock -/

theorem unaccounted_timerEffect (timer : LinkTimer) (s : State) : (timer.effect s).unaccounted = s.unaccounted := by
  cases timer with
  | lock => exact unaccounted_failLock s
  | load => exact unaccounted_abandonLoad s
  | flush => rfl

theorem setNow_balanced (t : Nat) {s : State} (hs : s.Balanced) : (setNow t s).Balanced := hs.of_unaccounted rfl

theorem expireTimer_balanced (timer : LinkTimer) (d : Nat) {s : State} (hs : s.Balanced) : (expireTimer timer d s).Balanced :=
  finish_balanced ((setNow_balanced d hs).of_unaccounted (unaccounted_timerEffect timer _))

theorem passLink_balanced (n t : Nat) {s : State} (hs : s.Balanced) : (passLink n t s).Balanced := by
  induction n generalizing s with
  | zero => exact setNow_balanced t hs
  | succ n ih =>
    unfold passLink
    split
    · split
      · exact ih (expireTimer_balanced _ _ hs)
      · exact setNow_balanced t hs
    · exact setNow_balanced t hs

theorem takeTimer_balanced (timer : LinkTimer) {s : State} (hs : s.Balanced) : (takeTimer timer s).Balanced := by
  unfold takeTimer
  split
  · exact hs
  · next d _ =>
    have passed := passLink_balanced passFuel d hs
    simp only
    split
    · exact expireTimer_balanced timer d passed
    · exact passed

theorem takeFlush_balanced {s : State} (hs : s.Balanced) : (takeFlush s).Balanced := by
  unfold takeFlush
  split
  · exact hs
  · exact finish_balanced (passLink_balanced passFuel _ hs)

theorem idle_balanced {s : State} (hs : s.Balanced) : (idle s).Balanced := passLink_balanced _ _ hs

/-! ## The commands -/

theorem unaccounted_takePressureWord (w : PressureWord) (s : State) : (takePressureWord w s).unaccounted = s.unaccounted := by
  unfold takePressureWord
  split
  · split <;> rfl
  · rfl

/-- Every command answers a next state, and the accounts balance in it if they did before. -/
theorem exec_balanced (c : Instr) {s : State} (hs : s.Balanced) : ∃ t, exec c s = .next t ∧ t.Balanced := by
  cases request : requestOf c with
  | some r => exact ⟨_, exec_request request s, submit_balanced r hs⟩
  | none =>
    cases c with
    | powerOnReset => exact ⟨_, rfl, balanced_powerOn _⟩
    | downlinkFrameEnd wire => exact ⟨_, rfl, finish_balanced (hs.of_unaccounted (unaccounted_endFrame wire s))⟩
    | lockAchieved =>
      show ∃ t, execLockAchieved s = .next t ∧ t.Balanced
      unfold execLockAchieved
      split
      · exact ⟨_, rfl, finish_balanced (hs.of_unaccounted (unaccounted_achieveLock s))⟩
      all_goals exact ⟨_, rfl, hs⟩
    | lockTimerExpiry => exact ⟨_, rfl, takeTimer_balanced .lock hs⟩
    | lockLost =>
      show ∃ t, execLockLost s = .next t ∧ t.Balanced
      unfold execLockLost
      split
      · exact ⟨_, rfl, finish_balanced (hs.of_unaccounted (unaccounted_loseLock s))⟩
      all_goals exact ⟨_, rfl, hs⟩
    | sampleRow words => exact ⟨_, rfl, takeTick_balanced words hs⟩
    | rearmExpiry ch => exact ⟨_, rfl, takeDue_balanced unaccounted_endRearm hs⟩
    | laneSyncTimeout ch => exact ⟨_, rfl, takeDue_balanced (fun _ => unaccounted_failSync ch s) hs⟩
    | laneSettleEnd ch => exact ⟨_, rfl, takeDue_balanced (fun _ => rfl) hs⟩
    | syncingSubstepEnd =>
      refine ⟨_, rfl, ?_⟩
      split
      · exact takeSyncingEnd_balanced hs
      · exact hs
    | settlingSubstepEnd => exact ⟨_, rfl, takeDue_balanced (fun _ => unaccounted_endSettlingSubstep s) hs⟩
    | learningEnd => exact ⟨_, rfl, takeDue_balanced (fun _ => unaccounted_endLearning s) hs⟩
    | windowExpiry => exact ⟨_, rfl, takeDue_balanced (fun _ => unaccounted_expireDueWindows s) hs⟩
    | intervalExpiry => exact ⟨_, rfl, takeDue_balanced (fun _ => unaccounted_expireInterval s) hs⟩
    | pressureWord word =>
      show ∃ t, execPressureWord word s = .next t ∧ t.Balanced
      unfold execPressureWord
      split
      · exact ⟨_, rfl, finish_balanced (hs.of_unaccounted (unaccounted_takePressureWord word s))⟩
      · exact ⟨_, rfl, hs⟩
    | plSlotEnd => exact ⟨_, rfl, takeDue_balanced (fun _ => unaccounted_endSlot s) hs⟩
    | flushExpiry => exact ⟨_, rfl, takeFlush_balanced hs⟩
    | readinessReport ready => exact ⟨_, rfl, finish_balanced (hs.of_unaccounted rfl)⟩
    | frameSent =>
      show ∃ t, execFrameSent s = .next t ∧ t.Balanced
      unfold execFrameSent
      split
      · exact ⟨_, rfl, finish_balanced (hs.of_unaccounted (unaccounted_completeFrame s))⟩
      · exact ⟨_, rfl, hs⟩
    | loadIdleTimeout => exact ⟨_, rfl, takeTimer_balanced .load hs⟩
    | _ => cases request

/-- Settles O10: a hit is held while it is open or parked, and leaves there only for one of its channel's four fates, so every
operation leaves the hits unaccounted for as they are. -/
theorem accountBalances : Obligations.AccountBalances := by
  intro s t hs stepped
  obtain ⟨-, idles⟩ | ⟨c, rest, -, takes⟩ := step_spec s
  · obtain rfl := Host.Outcome.next.inj (idles.symm.trans stepped)
    exact idle_balanced hs
  · obtain ⟨u, answers, balanced⟩ := exec_balanced c (s := { s with pending := rest }) (hs.of_unaccounted rfl)
    obtain rfl := Host.Outcome.next.inj (answers.symm.trans (takes.symm.trans stepped))
    exact balanced

end Sys2Proof.Machine
end

section
/-! Section 13.3: the condition layout read back. Fifteen bytes are the layout of at most one set of factor entries, and
`factorBitsOf` finds it; the eight bytes of SET_ENABLES are the same for one group's field. -/

namespace Sys2Proof.Machine

/-! ## Fields of the layout -/

/-- Section 13.1: the bytes from an offset on are the field that stands there, and the bytes after it. -/
theorem beBytes_fieldAt_append_drop {bs : List Byte} {offset size : Nat} (inside : offset + size ≤ bs.length) :
    beBytes size (fieldAt bs offset size) ++ bs.drop (offset + size) = bs.drop offset := by
  have length : ((bs.drop offset).take size).length = size := by
    rw [List.length_take, List.length_drop]
    omega
  have field : beBytes size (fieldAt bs offset size) = (bs.drop offset).take size := by
    have spelt := beBytes_beNat ((bs.drop offset).take size)
    rwa [length] at spelt
  rw [field, ← List.drop_drop, List.take_append_drop]

theorem fieldAt_lt {bs : List Byte} {offset size : Nat} : fieldAt bs offset size < 256 ^ size :=
  (beNat_lt _).trans_le (Nat.pow_le_pow_right (by norm_num) (List.length_take_le _ _))

theorem FactorBits.layout_length (m : FactorBits) : m.layout.length = 15 := by
  simp [FactorBits.layout, beBytes_length]

/-- A field of `size` bytes that holds a bit vector no wider than them reads as its value. -/
theorem fieldAt_toNat_append {w size : Nat} (x : BitVec w) (fits : w ≤ 8 * size) (bs : List Byte) :
    fieldAt (beBytes size x.toNat ++ bs) 0 size = x.toNat := by
  have small : x.toNat < 256 ^ size :=
    calc x.toNat < 2 ^ w := x.isLt
      _ ≤ 2 ^ (8 * size) := Nat.pow_le_pow_right (by norm_num) fits
      _ = 256 ^ size := by rw [Nat.pow_mul]
  rw [fieldAt_beBytes_append, Nat.mod_eq_of_lt small]

/-- Section 13.3: the fields of a layout, each at its offset. -/
theorem FactorBits.fieldAt_layout (m : FactorBits) :
    fieldAt m.layout 0 1 = m.clock.toNat ∧ fieldAt m.layout 1 1 = m.acq.toNat ∧ fieldAt m.layout 2 4 = m.fault.toNat ∧
      fieldAt m.layout 6 2 = m.noisy.toNat ∧ fieldAt m.layout 8 2 = m.continuous.toNat ∧
      fieldAt m.layout 10 1 = m.flow.toNat ∧ fieldAt m.layout 11 1 = m.table.toNat ∧ fieldAt m.layout 12 2 = m.zone.toNat ∧
      fieldAt m.layout 14 1 = m.link.toNat := by
  have layout : m.layout =
      beBytes 1 m.clock.toNat ++ (beBytes 1 m.acq.toNat ++ (beBytes 4 m.fault.toNat ++ (beBytes 2 m.noisy.toNat ++
        (beBytes 2 m.continuous.toNat ++ (beBytes 1 m.flow.toNat ++ (beBytes 1 m.table.toNat ++ (beBytes 2 m.zone.toNat ++
          (beBytes 1 m.link.toNat ++ [])))))))) := by
    simp only [FactorBits.layout, List.append_assoc, List.append_nil]
  rw [layout]
  simp (disch := omega) only [fieldAt_beBytes_skip, fieldAt_toNat_append, Nat.reduceSub, and_self]

/-! ## Reading the layout -/

/-- Section 13.3: every set of factor entries is read back from its layout. -/
theorem factorBitsOf_layout (m : FactorBits) : factorBitsOf m.layout = some m := by
  obtain ⟨clock, acq, fault, noisy, continuous, flow, table, zone, link⟩ := m.fieldAt_layout
  unfold factorBitsOf
  simp only [clock, acq, fault, noisy, continuous, flow, table, zone, link, BitVec.ofNat_toNat, BitVec.setWidth_eq]
  exact if_pos ⟨m.clock.isLt, m.acq.isLt, m.fault.isLt, m.flow.isLt, m.table.isLt, m.link.isLt⟩

/-- Section 13.3: fifteen bytes that name a set of factor entries are its layout. -/
theorem layout_of_factorBitsOf {bs : List Byte} {m : FactorBits} (length : bs.length = 15) (named : factorBitsOf bs = some m) :
    m.layout = bs := by
  unfold factorBitsOf at named
  obtain ⟨⟨clock, acq, fault, flow, table, link⟩, named⟩ := Option.ite_none_right_eq_some.mp named
  obtain rfl := Option.some.inj named
  have word : ∀ offset, fieldAt bs offset 2 < 2 ^ 16 := fun offset => fieldAt_lt
  have split : ∀ offset size, offset + size ≤ 15 →
      beBytes size (fieldAt bs offset size) ++ bs.drop (offset + size) = bs.drop offset :=
    fun offset size inside => beBytes_fieldAt_append_drop (length ▸ inside)
  have last : beBytes 1 (fieldAt bs 14 1) = bs.drop 14 := by
    rw [← split 14 1 le_rfl, List.drop_eq_nil_of_le length.le, List.append_nil]
  simp only [FactorBits.layout, List.append_assoc, BitVec.toNat_ofNat, Nat.mod_eq_of_lt (word _), Nat.mod_eq_of_lt clock,
    Nat.mod_eq_of_lt acq, Nat.mod_eq_of_lt fault, Nat.mod_eq_of_lt flow, Nat.mod_eq_of_lt table, Nat.mod_eq_of_lt link]
  rw [last, split 12 2 (by decide), split 11 1 (by decide), split 10 1 (by decide), split 8 2 (by decide), split 6 2 (by decide),
    split 2 4 (by decide), split 1 1 (by decide), split 0 1 (by decide), List.drop_zero]

/-- Section 13.3: fifteen bytes that are no set's layout name a factor that does not exist. -/
theorem factorBitsOf_eq_none {bs : List Byte} (length : bs.length = 15) (foreign : ∀ m : FactorBits, m.layout ≠ bs) :
    factorBitsOf bs = none :=
  Option.eq_none_iff_forall_ne_some.mpr fun m named => foreign m (layout_of_factorBitsOf length named)

/-! ## One group's field -/

/-- Section 13.3: the layout of one group's entries alone has zeros around the group's field. -/
theorem layout_none_withGroup (g : Group) (m : FactorBits) :
    (FactorBits.none.withGroup m g).layout =
      List.replicate g.layoutField.1 0 ++ (m.layout.drop g.layoutField.1).take g.layoutField.2
        ++ List.replicate (15 - g.layoutField.1 - g.layoutField.2) 0 := by
  cases g <;>
    simp [FactorBits.layout, FactorBits.withGroup, FactorBits.none, Group.layoutField, beBytes]

theorem Group.layoutField_size (g : Group) : g.layoutField.2 ≤ 8 := by cases g <;> decide

theorem Group.layoutField_inside (g : Group) : g.layoutField.1 + g.layoutField.2 ≤ 15 := by cases g <;> decide

/-- R176: the enables that a group's field carries are the group's own. -/
theorem enablesOf_groupField (g : Group) (m : FactorBits) :
    enablesOf g (groupField g m) = some (FactorBits.none.withGroup m g) := by
  have unused : (List.replicate (8 - g.layoutField.2) (0 : Byte)).length = 8 - g.layoutField.2 := List.length_replicate
  unfold enablesOf groupField
  simp only [List.take_left' unused, List.drop_left' unused]
  rw [if_pos (by simp), ← layout_none_withGroup, factorBitsOf_layout]

/-- R176: eight bytes that carry enables of a group are the group's field of them. -/
theorem groupField_of_enablesOf {g : Group} {bs : List Byte} {m : FactorBits} (length : bs.length = 8)
    (carried : enablesOf g bs = some m) : groupField g m = bs := by
  have size := g.layoutField_size
  have inside := g.layoutField_inside
  unfold enablesOf at carried
  obtain ⟨unused, named⟩ := Option.ite_none_right_eq_some.mp carried
  have field : (bs.drop (8 - g.layoutField.2)).length = g.layoutField.2 := by
    rw [List.length_drop, length]
    omega
  have layout := layout_of_factorBitsOf (by simp only [List.length_append, List.length_replicate, field]; omega) named
  have zeros : bs.take (8 - g.layoutField.2) = List.replicate (8 - g.layoutField.2) 0 := by
    refine List.eq_replicate_iff.mpr ⟨by rw [List.length_take, length]; omega, fun b hb => ?_⟩
    exact beq_iff_eq.mp (List.all_eq_true.mp unused b hb)
  unfold groupField
  rw [layout, List.append_assoc, List.drop_left' List.length_replicate, List.take_left' field, ← zeros, List.take_append_drop]

/-- R176: eight bytes that are no set's field of the group are refused. -/
theorem enablesOf_eq_none {g : Group} {bs : List Byte} (length : bs.length = 8) (foreign : ∀ m : FactorBits, groupField g m ≠ bs) :
    enablesOf g bs = none :=
  Option.eq_none_iff_forall_ne_some.mpr fun m carried => foreign m (groupField_of_enablesOf length carried)

/-! ## Entries and enables, one by one -/

/-- R175: an entry stays on where it was on and is not named. -/
theorem FactorBits.get_without (b m : FactorBits) (f : Factor) : (b.without m).get f = (b.get f && !m.get f) := by
  cases f <;> simp [FactorBits.get, FactorBits.without]

/-- R176: the entries of the group come from the second set, the others from the first. -/
theorem FactorBits.get_withGroup (b m : FactorBits) (g : Group) (f : Factor) :
    (b.withGroup m g).get f = if f.group = g then m.get f else b.get f := by
  cases g <;> cases f <;> rfl

theorem getLsbD_setBit {w k : Nat} (x : BitVec w) (b : Bool) (hk : k < w) (j : Nat) :
    (setBit x k b).getLsbD j = if j = k then b else x.getLsbD j := by
  unfold setBit
  by_cases hj : j = k
  · subst hj
    cases b <;> simp [hk]
  · have other : ¬ k = j := fun h => hj h.symm
    cases b with
    | true => simp [BitVec.getLsbD_twoPow, hj, other]
    | false => simpa [BitVec.getLsbD_twoPow, hj, other] using BitVec.lt_of_getLsbD

theorem Group.number_lt (g : Group) : g.number < 7 := by cases g <;> decide

theorem groupOf_number (g : Group) : groupOf g.number = some g := by cases g <;> rfl

theorem Group.number_inj {k g : Group} : k.number = g.number ↔ k = g := by
  refine ⟨fun h => ?_, congrArg _⟩
  have same := congrArg groupOf h
  rw [groupOf_number, groupOf_number] at same
  exact Option.some.inj same

theorem groupOf_eq_none {n : Nat} (beyond : 7 ≤ n) : groupOf n = none := by
  obtain ⟨k, rfl⟩ := Nat.exists_eq_add_of_le' beyond
  rfl

end Sys2Proof.Machine
end

section
/-! R175, R176: what CLEAR_CONDITIONS and SET_ENABLES answer at a quiet part. -/

namespace Sys2Proof.Machine

/-! ## CLEAR_CONDITIONS -/

theorem judgeClear_badRequest {masks : List Byte} (length : masks.length ≠ 15) (s : State) :
    judgeClear masks s = Answer.plain s .badRequest := if_neg length

theorem judgeClear_range {masks : List Byte} (length : masks.length = 15) (foreign : ∀ m : FactorBits, m.layout ≠ masks)
    (s : State) : judgeClear masks s = Answer.plain s .range := by
  simp only [judgeClear, length, if_true, factorBitsOf_eq_none length foreign]

theorem judgeClear_layout (m : FactorBits) (s : State) :
    judgeClear m.layout s = Answer.plain (clearConditions m s) .ok := by
  simp only [judgeClear, m.layout_length, if_true, factorBitsOf_layout]

/-- What the CLEAR_CONDITIONS row comes to at a quiet part, given the judgement once the request is counted. -/
theorem exec_clearConditions_quiet {s t : State} {masks : List Byte} {code : Code} (tag : Byte) (quiet : s.Quiet)
    (answer : judgeClear masks (countTaken s) = Answer.plain (countTaken t) code) (cannotStart : t.canStart = false) :
    exec (.clearConditions tag masks) s = .next (t.answered tag 0x0C code []) :=
  exec_quiet (i := .clearConditions tag masks) quiet rfl answer cannotStart

/-- Settles O32: the masks are the layout of one set of factor entries or of none, and clearing goes entry by entry. -/
theorem clearConditionsAnswers : Obligations.ClearConditionsAnswers := by
  intro s tag masks quiet
  refine ⟨fun length => ?_, fun length foreign => ?_, fun m layout => ?_⟩
  · exact exec_clearConditions_quiet tag quiet (judgeClear_badRequest length _) quiet.cannotStart
  · exact exec_clearConditions_quiet tag quiet (judgeClear_range length foreign _) quiet.cannotStart
  · subst layout
    refine ⟨s.cond.factors.without m, ?_, s.cond.factors.get_without m⟩
    exact exec_clearConditions_quiet (t := clearConditions m s) tag quiet (judgeClear_layout m _) quiet.cannotStart

/-! ## SET_ENABLES -/

theorem judgeEnables_badRequest {enables : List Byte} (length : enables.length ≠ 8) (group on : Byte) (s : State) :
    judgeEnables (group :: on :: enables) s = Answer.plain s .badRequest := if_neg length

theorem judgeEnables_of_length {enables : List Byte} (length : enables.length = 8) (group on : Byte) (s : State) :
    judgeEnables (group :: on :: enables) s = rangeEnables group on enables s := if_pos length

theorem rangeEnables_noGroup {group : Byte} (beyond : 7 ≤ group.toNat) (on : Byte) (enables : List Byte) (s : State) :
    rangeEnables group on enables s = Answer.plain s .range := by
  simp only [rangeEnables, groupOf_eq_none beyond]

/-- R176: a group enable other than 0 and 1 is refused, whatever the group and the enables. -/
theorem rangeEnables_badEnable {on : Byte} (beyond : 2 ≤ on.toNat) (group : Byte) (enables : List Byte) (s : State) :
    rangeEnables group on enables s = Answer.plain s .range := by
  unfold rangeEnables
  split
  · rfl
  · split
    · rfl
    · exact if_neg (Nat.not_lt.mpr beyond)

theorem rangeEnables_foreign {group : Byte} {g : Group} {enables : List Byte} (length : enables.length = 8)
    (named : group.toNat = g.number) (foreign : ∀ m : FactorBits, groupField g m ≠ enables) (on : Byte) (s : State) :
    rangeEnables group on enables s = Answer.plain s .range := by
  simp only [rangeEnables, named, groupOf_number, enablesOf_eq_none length foreign]

theorem rangeEnables_groupField {group on : Byte} {g : Group} (named : group.toNat = g.number) (isFlag : on.toNat < 2)
    (m : FactorBits) (s : State) :
    rangeEnables group on (groupField g m) s =
      Answer.plain (setEnables g (on == 1) (FactorBits.none.withGroup m g) s) .ok := by
  simp only [rangeEnables, named, groupOf_number, enablesOf_groupField, isFlag, if_true]

theorem groupField_length (g : Group) (m : FactorBits) : (groupField g m).length = 8 := by
  have size := g.layoutField_size
  have inside := g.layoutField_inside
  simp only [groupField, List.length_append, List.length_replicate, List.length_take, List.length_drop, m.layout_length]
  omega

/-- What the SET_ENABLES row comes to at a quiet part, given the judgement once the request is counted. -/
theorem exec_setEnables_quiet {s t : State} {group on : Byte} {enables : List Byte} {code : Code} (tag : Byte) (quiet : s.Quiet)
    (answer : judgeEnables (group :: on :: enables) (countTaken s) = Answer.plain (countTaken t) code)
    (cannotStart : t.canStart = false) :
    exec (.setEnables tag group on enables) s = .next (t.answered tag 0x0D code []) :=
  exec_quiet (i := .setEnables tag group on enables) quiet rfl answer cannotStart

/-- Settles O33: the eight bytes are the group's field of some set of enables or of none, and the write goes bit by bit. -/
theorem setEnablesAnswers : Obligations.SetEnablesAnswers := by
  intro s tag group on enables quiet
  refine ⟨fun length => ?_, fun length refused => ?_, fun g m named isFlag field => ?_⟩
  · exact exec_setEnables_quiet tag quiet (judgeEnables_badRequest length group on _) quiet.cannotStart
  · have range : rangeEnables group on enables (countTaken s) = Answer.plain (countTaken s) .range := by
      obtain beyond | beyond | ⟨g, named, foreign⟩ := refused
      · exact rangeEnables_noGroup beyond on enables _
      · exact rangeEnables_badEnable beyond group enables _
      · exact rangeEnables_foreign length named foreign on _
    exact exec_setEnables_quiet tag quiet ((judgeEnables_of_length length group on _).trans range) quiet.cannotStart
  · subst field
    have answer := (judgeEnables_of_length (groupField_length g m) group on (countTaken s)).trans
      (rangeEnables_groupField named isFlag m _)
    refine ⟨s.cond.enables.withGroup (FactorBits.none.withGroup m g) g, setBit s.cond.groupEnables g.number (on == 1),
      ?_, fun f => ?_, fun k => ?_⟩
    · exact exec_setEnables_quiet (t := setEnables g (on == 1) (FactorBits.none.withGroup m g) s) tag quiet answer quiet.cannotStart
    · rw [FactorBits.get_withGroup, FactorBits.get_withGroup]
      split <;> rfl
    · rw [getLsbD_setBit _ _ g.number_lt]
      simp only [Group.number_inj]

end Sys2Proof.Machine
end

section
/-! R193, R202: the entries of a table as one list, and the cut that READ_TABLE makes of it. Every entry of a table has a layout of the
same size, so a cut of whole entries is a cut of the canonical bytes. -/

namespace Sys2Proof.Machine

/-! ## Cuts of lists -/

/-- Reading one place after the other from `first` on is a cut of the list. -/
theorem filterMap_getElem?_range {α : Type} (l : List α) (first count : Nat) :
    ((List.range count).filterMap fun i => l[first + i]?) = (l.drop first).take count := by
  induction count with
  | zero => rfl
  | succ count ih =>
    rw [List.range_succ, List.filterMap_append, ih, List.take_add_one, List.getElem?_drop]
    cases h : l[first + count]? <;> simp [h]

section
variable {α β : Type} {f : α → List β} {size : Nat} {l : List α}

theorem drop_flatMap_of_length (same : ∀ a ∈ l, (f a).length = size) (n : Nat) :
    (l.flatMap f).drop (n * size) = (l.drop n).flatMap f := by
  induction n generalizing l with
  | zero => simp
  | succ n ih =>
    cases l with
    | nil => simp
    | cons a l =>
      obtain ⟨head, tail⟩ := List.forall_mem_cons.mp same
      rw [List.flatMap_cons, Nat.succ_mul, Nat.add_comm, ← List.drop_drop, List.drop_left' head, ih tail, List.drop_succ_cons]

theorem take_flatMap_of_length (same : ∀ a ∈ l, (f a).length = size) (n : Nat) :
    (l.flatMap f).take (n * size) = (l.take n).flatMap f := by
  induction n generalizing l with
  | zero => simp
  | succ n ih =>
    cases l with
    | nil => simp
    | cons a l =>
      obtain ⟨head, tail⟩ := List.forall_mem_cons.mp same
      rw [List.flatMap_cons, Nat.succ_mul, Nat.add_comm, ← head, List.take_length_add_append, head, ih tail,
        List.take_succ_cons, List.flatMap_cons]

end

/-! ## The entries of a table -/

/-- The committed entries of a table in ascending index. -/
def Tables.entryList (t : Tables) (id : TableId) : List Entry :=
  match id with
  | .setup => [.setup t.setup]
  | .channel => t.channel.toList.map Entry.channel
  | .pair => t.pair.toList.map Entry.pair
  | .filter => t.filter.toList.map Entry.filter
  | .zone => t.zone.toList.map Entry.zone

theorem Tables.entryAt_eq_getElem? (t : Tables) (id : TableId) (i : Nat) : t.entryAt id i = (t.entryList id)[i]? := by
  cases id with
  | setup => cases i <;> rfl
  | channel => exact List.getElem?_map.symm
  | pair => exact List.getElem?_map.symm
  | filter => exact List.getElem?_map.symm
  | zone => exact List.getElem?_map.symm

theorem Tables.canonical_eq_flatMap (t : Tables) (id : TableId) : t.canonical id = (t.entryList id).flatMap encodeEntry := by
  cases id with
  | setup => exact (List.append_nil _).symm
  | channel => exact (List.flatMap_map Entry.channel encodeEntry _).symm
  | pair => exact (List.flatMap_map Entry.pair encodeEntry _).symm
  | filter => exact (List.flatMap_map Entry.filter encodeEntry _).symm
  | zone => exact (List.flatMap_map Entry.zone encodeEntry _).symm

theorem Tables.table_of_mem_entryList {t : Tables} {id : TableId} {e : Entry} (listed : e ∈ t.entryList id) : e.table = id := by
  cases id with
  | setup => rw [List.mem_singleton.mp listed]; rfl
  | channel => obtain ⟨_, -, rfl⟩ := List.mem_map.mp listed; rfl
  | pair => obtain ⟨_, -, rfl⟩ := List.mem_map.mp listed; rfl
  | filter => obtain ⟨_, -, rfl⟩ := List.mem_map.mp listed; rfl
  | zone => obtain ⟨_, -, rfl⟩ := List.mem_map.mp listed; rfl

/-- R202: a canonical entry fills the size of its table's entries, whatever its fields hold. -/
theorem encodeEntry_length (e : Entry) : (encodeEntry e).length = e.table.entrySize := by
  cases e with
  | setup e => simp [encodeEntry, encodeSetup, signedBytes, beBytes_length, Entry.table, TableId.entrySize]
  | channel e => simp [encodeEntry, encodeChannel, beBytes_length, Entry.table, TableId.entrySize]
  | pair e => cases e <;> simp [encodeEntry, encodePair, beBytes_length, Entry.table, TableId.entrySize]
  | filter e => simp [encodeEntry, encodeFilter, beBytes_length, Entry.table, TableId.entrySize]
  | zone limit => simp [encodeEntry, encodeZone, beBytes_length, Entry.table, TableId.entrySize]

theorem Tables.encodeEntry_length_of_mem {t : Tables} {id : TableId} {e : Entry} (listed : e ∈ t.entryList id) :
    (encodeEntry e).length = id.entrySize := by
  rw [encodeEntry_length, table_of_mem_entryList listed]

/-- R193, R202: entries read one by one and encoded are a cut of the table's canonical form. -/
theorem Tables.encodeEntries_eq_cut (t : Tables) (id : TableId) (first count : Nat) :
    ((List.range count).filterMap fun i => t.entryAt id (first + i)).flatMap encodeEntry =
      ((t.canonical id).drop (first * id.entrySize)).take (count * id.entrySize) := by
  have size : ∀ e ∈ t.entryList id, (encodeEntry e).length = id.entrySize := fun _ => encodeEntry_length_of_mem
  have sizeAfter : ∀ e ∈ (t.entryList id).drop first, (encodeEntry e).length = id.entrySize :=
    fun e he => size e (List.mem_of_mem_drop he)
  simp only [entryAt_eq_getElem?]
  rw [filterMap_getElem?_range, canonical_eq_flatMap, drop_flatMap_of_length size, take_flatMap_of_length sizeAfter]

/-! ## READ_TABLE -/

theorem byte_toNat (b : Byte) : byte b.toNat = b := BitVec.ofNat_toNat 8 b

theorem tableOfByte_of_number {b : Byte} {id : TableId} (named : b.toNat = id.number) : tableOfByte b = some id := by
  unfold tableOfByte
  rw [named]
  cases id <;> rfl

theorem tableOfByte_beyond {b : Byte} (beyond : 5 ≤ b.toNat) : tableOfByte b = none := by
  obtain ⟨k, hk⟩ := Nat.exists_eq_add_of_le' beyond
  unfold tableOfByte
  rw [hk]
  rfl

theorem readTable_range {t : TableId} {first count : Nat} (outside : count < 1 ∨ 4 < count ∨ t.entries < first + count)
    (s : State) : readTable t first count s = Answer.plain s .range := if_pos outside

/-- R193: what a read inside the table answers. -/
theorem readTable_inside {t : TableId} {first count : Nat} (atLeast : 1 ≤ count) (atMost : count ≤ 4)
    (inside : first + count ≤ t.entries) (s : State) :
    readTable t first count s =
      { state := s, code := .ok,
        body := [byte t.number, byte first, byte count]
          ++ ((s.tables.canonical t).drop (first * t.entrySize)).take (count * t.entrySize)
          ++ beBytes 4 (s.crcs.get t).toNat } := by
  have accepted : ¬ (count < 1 ∨ 4 < count ∨ t.entries < first + count) := by omega
  rw [← Tables.encodeEntries_eq_cut]
  exact if_neg accepted

/-- R170: a request that carries table, first and count goes to the owner of the table that its first byte names. -/
theorem judgeTable_named {table : Byte} {id : TableId} (named : table.toNat = id.number)
    (f : TableId → Nat → Nat → State → Answer) (first count : Byte) (s : State) :
    judgeTable f [table, first, count] s = f id first.toNat count.toNat s := by
  simp only [judgeTable, tableOfByte_of_number named]

theorem judgeTable_beyond {table : Byte} (beyond : 5 ≤ table.toNat) (f : TableId → Nat → Nat → State → Answer)
    (first count : Byte) (s : State) : judgeTable f [table, first, count] s = Answer.plain s .range := by
  simp only [judgeTable, tableOfByte_beyond beyond]

/-- What the READ_TABLE row comes to at a quiet part, given the judgement once the request is counted: no judgement of it changes
the state. -/
theorem exec_readTable_quiet {s : State} {table first count : Byte} {code : Code} {body : List Byte} (tag : Byte) (quiet : s.Quiet)
    (answer : judgeTable readTable [table, first, count] (countTaken s) = { state := countTaken s, code := code, body := body }) :
    exec (.readTable tag table first count) s = .next (s.answered tag 0x08 code body) :=
  exec_quiet (i := .readTable tag table first count) quiet rfl answer quiet.cannotStart

/-- Settles O29: the table byte names one of the five tables or none, and a read inside the table is a cut of its canonical form. -/
theorem readTableAnswers : Obligations.ReadTableAnswers := by
  intro s tag table first count quiet
  refine ⟨fun beyond => ?_, fun id named => ⟨fun outside => ?_, fun atLeast atMost inside => ?_⟩⟩
  · exact exec_readTable_quiet tag quiet (judgeTable_beyond beyond readTable first count _)
  · exact exec_readTable_quiet tag quiet ((judgeTable_named named readTable first count _).trans (readTable_range outside _))
  · have answer := (judgeTable_named named readTable first count _).trans
      (readTable_inside atLeast atMost inside (countTaken s))
    rw [← named, byte_toNat, byte_toNat, byte_toNat] at answer
    exact exec_readTable_quiet tag quiet answer

end Sys2Proof.Machine
end

section
/-! R190, R191, R192: what LOCK_TEST and UNLOCK_TEST answer at a quiet part. -/

namespace Sys2Proof.Machine

/-! ## LOCK_TEST -/

/-- Chapter 11: the test lock freezes every table but ZONE. -/
theorem TableId.lockable_iff (t : TableId) : t.lockable = true ↔ t ≠ .zone := by cases t <;> decide

theorem State.loadingLockable_iff (s : State) : s.loadingLockable = true ↔ ∃ l, s.loader = some l ∧ l.table ≠ .zone := by
  unfold State.loadingLockable
  cases s.loader with
  | none => simp
  | some l => simp [TableId.lockable_iff]

theorem lockTest_locked {s : State} {digest : Counter} (locked : s.lock = some digest) :
    lockTest s = { state := s, code := .already, body := beBytes 4 digest.toNat } := by
  simp only [lockTest, locked]

theorem lockTest_loading {s : State} (unlocked : s.lock = none) (loading : s.loadingLockable = true) :
    lockTest s = Answer.plain s .loadBusy := by
  simp only [lockTest, unlocked, loading, if_true, Answer.plain]

theorem lockTest_taken {s : State} (unlocked : s.lock = none) (idle : ¬ s.loadingLockable = true) :
    lockTest s =
      { state := raise .lockChanged { s with lock := some (digestOf s.crcs) }, code := .ok,
        body := beBytes 4 (digestOf s.crcs).toNat } := by
  simp only [lockTest, unlocked, idle, if_false, Bool.false_eq_true]

/-- What the LOCK_TEST row comes to at a quiet part, given what its owner answers once the request is counted. -/
theorem exec_lockTest_quiet {s t : State} {code : Code} {body : List Byte} (tag : Byte) (quiet : s.Quiet)
    (answer : lockTest (countTaken s) = { state := countTaken t, code := code, body := body }) (cannotStart : t.canStart = false) :
    exec (.lockTest tag) s = .next (t.answered tag 0x09 code body) :=
  exec_quiet (i := .lockTest tag) quiet rfl answer cannotStart

/-! ## UNLOCK_TEST -/

theorem unlockTest_unlocked {s : State} (unlocked : s.lock = none) : unlockTest s = Answer.plain s .already := by
  simp only [unlockTest, unlocked, Answer.plain]

theorem unlockTest_taken {s : State} {digest : Counter} (locked : s.lock = some digest) (state : s.acq = .off ∨ s.acq = .standby) :
    unlockTest s = Answer.plain (raise .lockChanged { s with lock := none }) .ok := by
  simp only [unlockTest, locked, state, if_true, Answer.plain]

theorem unlockTest_refused {s : State} {digest : Counter} (locked : s.lock = some digest)
    (state : ¬ (s.acq = .off ∨ s.acq = .standby)) : unlockTest s = Answer.plain s .state := by
  simp only [unlockTest, locked, state, if_false, Answer.plain]

/-- What the UNLOCK_TEST row comes to at a quiet part, given what its owner answers once the request is counted. -/
theorem exec_unlockTest_quiet {s t : State} {code : Code} (tag : Byte) (quiet : s.Quiet)
    (answer : unlockTest (countTaken s) = Answer.plain (countTaken t) code) (cannotStart : t.canStart = false) :
    exec (.unlockTest tag) s = .next (t.answered tag 0x0A code []) :=
  exec_quiet (i := .unlockTest tag) quiet rfl answer cannotStart

/-! ## The change of the lock -/

/-- R192: the setting of TABLE.LOCK_CHANGED at the changed lock, with the request counted before it. -/
theorem raise_lockChanged_countTaken (s : State) (lock : Option Counter) :
    raise .lockChanged { countTaken s with lock := lock } = countTaken (setFactor .lockChanged 0 none { s with lock := lock }) :=
  setFactor_countTaken .lockChanged 0 none { s with lock := lock }

/-- No frame can start where the lock has changed and none could before. -/
theorem canStart_lockChanged {s : State} (quiet : s.Quiet) (lock : Option Counter) :
    (setFactor .lockChanged 0 none { s with lock := lock }).canStart = false :=
  (setFactor_canStart .lockChanged 0 none { s with lock := lock }).trans quiet.cannotStart

/-- Settles O30: the counting of the request leaves the lock, the loader, the CRCs and the acquisition state, on which R190 and R191
decide. -/
theorem lockRequestsAnswer : Obligations.LockRequestsAnswer := by
  intro s tag quiet
  refine ⟨fun d locked => ⟨?_, fun state => ?_, fun notOff notStandby => ?_⟩,
    fun unlocked => ⟨?_, fun loading => ?_, fun idle => ?_⟩⟩
  · exact exec_lockTest_quiet tag quiet (lockTest_locked (s := countTaken s) locked) quiet.cannotStart
  · have answer := unlockTest_taken (s := countTaken s) locked state
    rw [raise_lockChanged_countTaken] at answer
    exact exec_unlockTest_quiet tag quiet answer (canStart_lockChanged quiet none)
  · have refused : ¬ (s.acq = .off ∨ s.acq = .standby) := not_or.mpr ⟨notOff, notStandby⟩
    exact exec_unlockTest_quiet tag quiet (unlockTest_refused (s := countTaken s) locked refused) quiet.cannotStart
  · exact exec_unlockTest_quiet tag quiet (unlockTest_unlocked (s := countTaken s) unlocked) quiet.cannotStart
  · have busy := s.loadingLockable_iff.mpr loading
    exact exec_lockTest_quiet tag quiet (lockTest_loading (s := countTaken s) unlocked busy) quiet.cannotStart
  · have notBusy : ¬ s.loadingLockable = true := fun busy => by
      obtain ⟨l, loaded, lockable⟩ := s.loadingLockable_iff.mp busy
      exact lockable (idle l loaded)
    have answer := lockTest_taken (s := countTaken s) unlocked notBusy
    rw [raise_lockChanged_countTaken] at answer
    exact exec_lockTest_quiet tag quiet answer (canStart_lockChanged quiet _)

end Sys2Proof.Machine
end

section
/-! R134: which blocks the operations of the Waveform Store give and take. Every one writes a single descriptor: a capture gives an
empty one free blocks, and all others leave a descriptor no block that it did not own. -/

namespace Sys2Proof.Machine

/-- R134: the blocks that a descriptor owns. -/
def ownedBy (o : Option Segment) : List Nat :=
  match o with
  | none => []
  | some g => g.blocks

theorem ownedBlocks_eq (w : WaveStore) : w.ownedBlocks = w.segments.toList.flatMap ownedBy := rfl

/-- The owned blocks before and after one descriptor is replaced. -/
theorem ownedBlocks_put (w : WaveStore) (i : Fin 64) (o : Option Segment) :
    ∃ before after, w.ownedBlocks = before ++ (ownedBy w.segments[i] ++ after) ∧
      (w.put i o).ownedBlocks = before ++ (ownedBy o ++ after) := by
  have inside : i.val < w.segments.toList.length := by simp
  refine ⟨(w.segments.toList.take i).flatMap ownedBy, (w.segments.toList.drop (i + 1)).flatMap ownedBy, ?_, ?_⟩
  · rw [ownedBlocks_eq]
    conv_lhs => rw [← List.take_append_drop i.val w.segments.toList, List.drop_eq_getElem_cons inside]
    simp
  · have written : (w.put i o).segments.toList = w.segments.toList.set i o := rfl
    rw [ownedBlocks_eq, written, List.set_eq_take_append_cons_drop, if_pos inside]
    simp

/-- R134: no block of a store has two owners, and every owned block is one of the 256. -/
structure WaveStore.OwnedOnce (w : WaveStore) : Prop where
  once : w.ownedBlocks.Nodup
  pool : ∀ b ∈ w.ownedBlocks, b < 256

theorem blocksOwnedOnce_iff (s : State) : s.BlocksOwnedOnce ↔ s.wave.OwnedOnce :=
  ⟨fun h => ⟨h.once, h.pool⟩, fun h => ⟨h.once, h.pool⟩⟩

/-- Only the descriptors tell who owns a block. -/
theorem WaveStore.OwnedOnce.of_segments {w v : WaveStore} (h : w.OwnedOnce) (same : v.segments = w.segments) : v.OwnedOnce := by
  have owned : v.ownedBlocks = w.ownedBlocks := by rw [ownedBlocks_eq, ownedBlocks_eq, same]
  exact ⟨owned ▸ h.once, owned ▸ h.pool⟩

/-- A descriptor that keeps some of its blocks, and takes none. -/
theorem WaveStore.OwnedOnce.put {w : WaveStore} (h : w.OwnedOnce) {i : Fin 64} {o : Option Segment}
    (fewer : (ownedBy o).Sublist (ownedBy w.segments[i])) : (w.put i o).OwnedOnce := by
  obtain ⟨before, after, old, new⟩ := ownedBlocks_put w i o
  have sub : (w.put i o).ownedBlocks.Sublist w.ownedBlocks := by
    rw [old, new]
    exact (List.Sublist.refl before).append (fewer.append (List.Sublist.refl after))
  exact ⟨h.once.sublist sub, fun b hb => h.pool b (sub.subset hb)⟩

theorem WaveStore.owns_iff (w : WaveStore) (b : Nat) : w.owns b = true ↔ b ∈ w.ownedBlocks := by
  unfold owns ownedBlocks
  simp only [List.any_eq_true, List.mem_flatMap]
  refine exists_congr fun o => and_congr_right fun _ => ?_
  cases o <;> simp

theorem mem_freeBlockList {w : WaveStore} {b : Nat} : b ∈ w.freeBlockList ↔ b < 256 ∧ b ∉ w.ownedBlocks := by
  simp [WaveStore.freeBlockList, ← WaveStore.owns_iff]

/-- R136: a FREE descriptor that takes blocks which are free. -/
theorem WaveStore.OwnedOnce.capture {w : WaveStore} (h : w.OwnedOnce) {i : Fin 64} {o : Option Segment} {n : Nat}
    (free : w.segments[i] = none) (blocks : ownedBy o = w.freeBlockList.take n) : (w.put i o).OwnedOnce := by
  obtain ⟨before, after, old, new⟩ := ownedBlocks_put w i o
  rw [free, show ownedBy none = [] from rfl, List.nil_append] at old
  have moved : (w.put i o).ownedBlocks.Perm (ownedBy o ++ w.ownedBlocks) := by
    rw [new, old]
    exact List.perm_append_comm_assoc before (ownedBy o) after
  have taken : ∀ b ∈ ownedBy o, b < 256 ∧ b ∉ w.ownedBlocks := fun b hb =>
    mem_freeBlockList.mp (List.mem_of_mem_take (blocks ▸ hb))
  have freeOnce : w.freeBlockList.Nodup := List.nodup_range.filter _
  refine ⟨moved.nodup_iff.mpr (List.Nodup.append ?_ h.once fun b hb => (taken b hb).2), fun b hb => ?_⟩
  · rw [blocks]
    exact freeOnce.sublist (List.take_sublist n _)
  · rcases List.mem_append.mp (moved.subset hb) with new | old
    · exact (taken b new).1
    · exact h.pool b old

/-! ## The operations of the store -/

/-- Every block goes on having at most one owner. -/
def KeepsOwners (s t : State) : Prop := s.BlocksOwnedOnce → t.BlocksOwnedOnce

theorem KeepsOwners.of_segments {s t : State} (same : t.wave.segments = s.wave.segments) : KeepsOwners s t := fun h =>
  (blocksOwnedOnce_iff t).mpr (((blocksOwnedOnce_iff s).mp h).of_segments same)

theorem KeepsOwners.trans {s t u : State} (h : KeepsOwners s t) (k : KeepsOwners t u) : KeepsOwners s u := k ∘ h

/-- One descriptor is replaced by one that takes no new block. -/
theorem KeepsOwners.of_put {s t : State} {i : Fin 64} {o : Option Segment} (written : t.wave.segments = (s.wave.put i o).segments)
    (fewer : (ownedBy o).Sublist (ownedBy s.wave.segments[i])) : KeepsOwners s t := fun h =>
  (blocksOwnedOnce_iff t).mpr ((((blocksOwnedOnce_iff s).mp h).put fewer).of_segments written)

theorem setFactor_wave (f : Factor) (index : Nat) (reached : Option Nat) (s : State) :
    (setFactor f index reached s).wave = s.wave := by
  obtain ⟨fs, ns, h, -⟩ := setFactor_frame f index reached s
  rw [h]
  rfl

theorem evalShed_wave (s : State) : (evalShed s).wave = s.wave := by
  obtain ⟨fs, ns, h, -⟩ := evalShed_frame s
  rw [h]
  rfl

theorem setFactor_keepsOwners (f : Factor) (index : Nat) (reached : Option Nat) (s : State) :
    KeepsOwners s (setFactor f index reached s) := .of_segments (by rw [setFactor_wave])

theorem evalShed_keepsOwners (s : State) : KeepsOwners s (evalShed s) := .of_segments (by rw [evalShed_wave])

theorem freeSegment_keepsOwners (i : Fin 64) (s : State) : KeepsOwners s (freeSegment i s) :=
  KeepsOwners.trans (t := s.modWave fun w => { w.put i none with discarded := w.discarded + 1 })
    (.of_put (i := i) (o := none) rfl (List.nil_sublist _)) (evalShed_keepsOwners _)

theorem freeSegmentOf_keepsOwners (ch : Channel) (hitId : Counter) (s : State) : KeepsOwners s (freeSegmentOf ch hitId s) := by
  unfold freeSegmentOf
  split
  · exact .of_segments rfl
  · exact freeSegment_keepsOwners _ s

theorem segmentLeavesContext_keepsOwners (ch : Channel) (hitId : Counter) (s : State) :
    KeepsOwners s (segmentLeavesContext ch hitId s) := by
  unfold segmentLeavesContext
  split
  · exact .of_segments rfl
  · split
    · split
      · exact freeSegment_keepsOwners _ s
      · exact .of_segments rfl
    · exact .of_segments rfl

theorem Segment.append_blocks (g : Segment) (smp : Sample) : (g.append smp).blocks = g.blocks := by
  unfold Segment.append
  split <;> rfl

theorem segmentFill_keepsOwners (ch : Channel) (hitId : Counter) (smp : Sample) (s : State) :
    KeepsOwners s (segmentFill ch hitId smp s) := by
  unfold segmentFill
  split
  · exact .of_segments rfl
  · next i _ =>
    split
    · next g owner =>
      split
      · refine .of_put (i := i) (o := some (g.append smp)) rfl ?_
        simp [owner, ownedBy, Segment.append_blocks]
      · exact .of_segments rfl
    · exact .of_segments rfl

theorem segmentFillEnd_keepsOwners (ch : Channel) (hitId : Counter) (s : State) :
    KeepsOwners s (segmentFillEnd ch hitId s) := by
  unfold segmentFillEnd
  split
  · exact .of_segments rfl
  · next i _ =>
    split
    · next g owner =>
      simp only
      split
      · refine KeepsOwners.trans (.of_put (i := i) (o := some { g with blocks := g.blocks.take (blocksFor g.samples.length) })
          rfl ?_) (evalShed_keepsOwners _)
        simpa [owner, ownedBy] using List.take_sublist _ _
      · exact .of_segments rfl
    · exact .of_segments rfl

theorem segmentWait_keepsOwners (ch : Channel) (hitId : Counter) (s : State) : KeepsOwners s (segmentWait ch hitId s) := by
  unfold segmentWait
  split
  · exact .of_segments rfl
  · next i _ =>
    split
    · next g owner =>
      refine .of_put (i := i) (o := some { g with state := .waitEvent }) rfl ?_
      simp [owner, ownedBy]
    · exact .of_segments rfl

theorem segmentAdmitted_keepsOwners (p : Path) (ch : Channel) (hitId : Counter) (s : State) :
    KeepsOwners s (segmentAdmitted p ch hitId s).1 := by
  unfold segmentAdmitted
  split
  · exact .of_segments rfl
  · next i _ =>
    split
    · next g owner =>
      split
      · refine .of_put (i := i) (o := some { g with state := .complete }) rfl ?_
        simp [owner, ownedBy]
      · exact freeSegment_keepsOwners _ s
    · exact .of_segments rfl

theorem freeDescriptor_free {w : WaveStore} {i : Fin 64} (found : w.freeDescriptor = some i) : w.segments[i] = none :=
  Option.isNone_iff_eq_none.mp (List.find?_some (p := fun j : Fin 64 => w.segments[j].isNone) found)

theorem decideCapture_keepsOwners (ch : Channel) (hitId : Counter) (arrival : TestTime) (s : State) :
    KeepsOwners s (decideCapture ch hitId arrival s) := by
  unfold decideCapture
  simp only
  split
  · exact .of_segments rfl
  · split
    · next i found =>
      split
      · refine KeepsOwners.trans (t := s.modWave fun w =>
          { w.put i (some (newSegment w ch hitId arrival s.dets[ch].active)) with
            nextSeg := w.nextSeg + 1, captured := w.captured + 1 }) (fun h => ?_) (evalShed_keepsOwners _)
        have captured := ((blocksOwnedOnce_iff s).mp h).capture
          (o := some (newSegment s.wave ch hitId arrival s.dets[ch].active)) (freeDescriptor_free found) rfl
        exact (blocksOwnedOnce_iff _).mpr (captured.of_segments rfl)
      · exact .of_segments rfl
    · exact .of_segments rfl

theorem startPiece_keepsOwners {i : Fin 64} {g : Segment} {s : State} (owner : s.wave.segments[i] = some g) :
    KeepsOwners s (startPiece i g s) := by
  refine KeepsOwners.trans ?_ (evalShed_keepsOwners _)
  unfold WaveStore.takePiece
  split
  · exact .of_put (i := i) (o := none) rfl (List.nil_sublist _)
  · refine .of_put (i := i) (o := some { g with state := .sending, blocks := g.blocks.tail, nextPiece := g.nextPiece + 1 }) rfl ?_
    simpa [owner, ownedBy] using List.tail_sublist _

end Sys2Proof.Machine
end

section
/-! R194: factor entries are latched one at a time, and no work of hits, records, events and samples clears one. -/

namespace Sys2Proof.Machine

/-- R194: setting an entry of a field turns exactly that bit on. -/
theorem getLsbD_setBit_on {w k : Nat} (x : BitVec w) (hk : k < w) (j : Nat) :
    (setBit x k true).getLsbD j = (decide (j = k) || x.getLsbD j) := by
  rw [getLsbD_setBit x true hk]
  by_cases h : j = k <;> simp [h]

/-- R194: a latched entry is on, and no other entry moves. -/
theorem FactorBits.get_on (b : FactorBits) (f g : Factor) : (b.on f).get g = (decide (g = f) || b.get g) := by
  cases f <;> cases g <;>
    simp (disch := omega) [FactorBits.on, FactorBits.get, getLsbD_setBit_on, Fin.ext_iff, -BitVec.getLsbD_eq_getElem]

/-- No factor entry is cleared. -/
def Latches (s t : State) : Prop := ∀ f, s.cond.factors.get f = true → t.cond.factors.get f = true

theorem Latches.of_same {s t : State} (same : t.cond.factors = s.cond.factors) : Latches s t := fun f => by rw [same]; exact id

theorem Latches.trans {s t u : State} (h : Latches s t) (k : Latches t u) : Latches s u := fun f set => k f (h f set)

theorem setFactor_latches (f : Factor) (index : Nat) (reached : Option Nat) (s : State) : Latches s (setFactor f index reached s) := by
  rcases setFactor_spec f index reached s with ⟨-, same⟩ | ⟨-, ns, same, -⟩
  · exact .of_same (by rw [same])
  · intro g set
    rw [same]
    exact (FactorBits.get_on s.cond.factors f g).trans (by rw [set, Bool.or_true])

theorem evalShed_latches (s : State) : Latches s (evalShed s) := by
  unfold evalShed
  simp only
  split
  · exact .of_same rfl
  · exact Latches.trans (t := { s with rq := { s.rq with shed := shedStep s.rq.shed s.rq.hits.length s.wave.freeBlocks } })
      (.of_same rfl) (setFactor_latches _ _ _ _)

theorem freeSegment_latches (i : Fin 64) (s : State) : Latches s (freeSegment i s) :=
  Latches.trans (t := s.modWave fun w => { w.put i none with discarded := w.discarded + 1 }) (.of_same rfl) (evalShed_latches _)

theorem freeSegmentOf_latches (ch : Channel) (hitId : Counter) (s : State) : Latches s (freeSegmentOf ch hitId s) := by
  unfold freeSegmentOf
  split
  · exact .of_same rfl
  · exact freeSegment_latches _ s

theorem segmentLeavesContext_latches (ch : Channel) (hitId : Counter) (s : State) :
    Latches s (segmentLeavesContext ch hitId s) := by
  unfold segmentLeavesContext
  split
  · exact .of_same rfl
  · split
    · split
      · exact freeSegment_latches _ s
      · exact .of_same rfl
    · exact .of_same rfl

theorem segmentFill_latches (ch : Channel) (hitId : Counter) (smp : Sample) (s : State) :
    Latches s (segmentFill ch hitId smp s) := by
  unfold segmentFill
  split
  · exact .of_same rfl
  · split
    · split <;> exact .of_same rfl
    · exact .of_same rfl

theorem segmentFillEnd_latches (ch : Channel) (hitId : Counter) (s : State) : Latches s (segmentFillEnd ch hitId s) := by
  unfold segmentFillEnd
  split
  · exact .of_same rfl
  · next i _ =>
    split
    · next g _ =>
      simp only
      split
      · exact Latches.trans (t := s.modWave fun w => w.put i (some { g with blocks := g.blocks.take (blocksFor g.samples.length) }))
          (.of_same rfl) (evalShed_latches _)
      · exact .of_same rfl
    · exact .of_same rfl

theorem segmentWait_latches (ch : Channel) (hitId : Counter) (s : State) : Latches s (segmentWait ch hitId s) := by
  unfold segmentWait
  split
  · exact .of_same rfl
  · split <;> exact .of_same rfl

theorem segmentAdmitted_latches (p : Path) (ch : Channel) (hitId : Counter) (s : State) :
    Latches s (segmentAdmitted p ch hitId s).1 := by
  unfold segmentAdmitted
  split
  · exact .of_same rfl
  · split
    · split
      · exact .of_same rfl
      · exact freeSegment_latches _ s
    · exact .of_same rfl

theorem decideCapture_latches (ch : Channel) (hitId : Counter) (arrival : TestTime) (s : State) :
    Latches s (decideCapture ch hitId arrival s) := by
  unfold decideCapture
  simp only
  split
  · exact .of_same rfl
  · split
    · next i _ =>
      split
      · exact Latches.trans (t := s.modWave fun w =>
          { w.put i (some (newSegment w ch hitId arrival s.dets[ch].active)) with
            nextSeg := w.nextSeg + 1, captured := w.captured + 1 }) (.of_same rfl) (evalShed_latches _)
      · exact .of_same rfl
    · exact .of_same rfl

end Sys2Proof.Machine
end

section
/-! What hits, records, events and samples leave as it was: the tables and the lock, Test Time, the controller and the synthesizer,
the pressure, the link. What they write goes on meeting the manual's invariants. -/

namespace Sys2Proof.Machine

/-! ## The relation -/

/-- What no hit, record, event or sample writes. -/
structure Fixed where
  tables : Tables
  crcs : TableCrcs
  lock : Option Counter
  loader : Option Load
  link : LinkPort
  tt : TestTime
  rowTT : TestTime
  now : Nat
  acq : Acq
  synth : Synth
  pressure : Nat
  pMax : Nat
  responses : List Response
  tx : Option UplinkFrame
  ready : Bool
  pl : PressureLane
  lastFail : Option StartFailure
  phase : Phase
  enables : FactorBits
  groupEnables : BitVec 7
  slot : Option IntervalRecord
  lastReset : ResetKind
  pending : List Instr

/-- That part of a state. -/
def State.fixed (s : State) : Fixed :=
  { tables := s.tables, crcs := s.crcs, lock := s.lock, loader := s.loader, link := s.link, tt := s.tt, rowTT := s.rowTT,
    now := s.now, acq := s.acq, synth := s.synth, pressure := s.hist.pressure, pMax := s.hist.pMax,
    responses := s.rq.responses, tx := s.rq.tx, ready := s.rq.ready, pl := s.pl, lastFail := s.lastFail, phase := s.hist.phase,
    enables := s.cond.enables, groupEnables := s.cond.groupEnables, slot := s.timer.slot, lastReset := s.lastReset,
    pending := s.pending }

/-- R34, R36, R56: the machine states of a detector that an acquisition state allows. -/
def Acq.allows (a : Acq) (m : DetState) : Prop :=
  match a with
  | .armed => True
  | .draining _ => m = .blocked ∨ ∃ h, m = .inHit h
  | .off | .starting _ _ | .standby | .learning _ _ => m = .blocked

/-- R34, R37: whether an acquisition state can hold hits and contexts. -/
def Acq.holdsHits (a : Acq) : Prop := a = .armed ∨ ∃ t, a = .draining t

/-- R34, R36, R37, R56: detectors and contexts agree with an acquisition state. -/
structure State.StandsIn (s : State) (a : Acq) : Prop where
  machines : ∀ ch : Channel, a.allows s.dets[ch].machine
  contexts : ¬ a.holdsHits → ∀ k : Fin 4, s.asm.contexts[k] = none

/-- Records are added at the tails of the queues, and factor entries are latched. -/
structure Grows (s t : State) : Prop where
  hits : s.rq.hits <+: t.rq.hits
  events : s.rq.events <+: t.rq.events
  latched : Latches s t

theorem Grows.trans {s t u : State} (h : Grows s t) (k : Grows t u) : Grows s u :=
  ⟨h.hits.trans k.hits, h.events.trans k.events, h.latched.trans k.latched⟩

theorem Grows.of_same {s t : State} (hits : t.rq.hits = s.rq.hits) (events : t.rq.events = s.rq.events) (latched : Latches s t) :
    Grows s t := ⟨hits ▸ List.prefix_rfl, events ▸ List.prefix_rfl, latched⟩

/-- The work of hits, records, events and samples: it leaves what is fixed, and keeps the invariants of the queues, the shed level, the
Waveform Store, the detectors and the contexts. -/
structure Routine (s t : State) : Prop where
  fixed : t.fixed = s.fixed
  capacity : s.WithinCapacity → t.WithinCapacity
  shed : s.ShedFollows → t.ShedFollows
  owners : KeepsOwners s t
  machines : ∀ ch : Channel, s.acq.allows s.dets[ch].machine → s.acq.allows t.dets[ch].machine
  standing : s.StandsIn s.acq → t.StandsIn s.acq
  grows : Grows s t

theorem Routine.acq {s t : State} (h : Routine s t) : t.acq = s.acq := congrArg Fixed.acq h.fixed
theorem Routine.synth {s t : State} (h : Routine s t) : t.synth = s.synth := congrArg Fixed.synth h.fixed
theorem Routine.tt {s t : State} (h : Routine s t) : t.tt = s.tt := congrArg Fixed.tt h.fixed

theorem Routine.refl (s : State) : Routine s s := ⟨rfl, id, id, id, fun _ => id, id, .of_same rfl rfl (.of_same rfl)⟩

theorem Routine.trans {s t u : State} (h : Routine s t) (k : Routine t u) : Routine s u := by
  have km := k.machines
  have ks := k.standing
  rw [h.acq] at km ks
  exact ⟨k.fixed.trans h.fixed, k.capacity ∘ h.capacity, k.shed ∘ h.shed, k.owners ∘ h.owners,
    fun ch => km ch ∘ h.machines ch, ks ∘ h.standing, h.grows.trans k.grows⟩

/-- The queues and the descriptors, on which the invariants of the Record Queues and the Waveform Store stand. -/
structure Stored where
  hits : List QueuedHit
  events : List EventRecord
  notices : List Notice
  shed : Fin 4
  segments : Vector (Option Segment) 64

/-- That part of a state. -/
def State.stored (s : State) : Stored :=
  { hits := s.rq.hits, events := s.rq.events, notices := s.rq.notices, shed := s.rq.shed, segments := s.wave.segments }

theorem withinCapacity_of_stored {s t : State} (fixed : t.fixed = s.fixed) (stored : t.stored = s.stored)
    (h : s.WithinCapacity) : t.WithinCapacity := by
  have hits : t.rq.hits = s.rq.hits := congrArg Stored.hits stored
  have events : t.rq.events = s.rq.events := congrArg Stored.events stored
  have notices : t.rq.notices = s.rq.notices := congrArg Stored.notices stored
  have responses : t.rq.responses = s.rq.responses := congrArg Fixed.responses fixed
  have link : t.link = s.link := congrArg Fixed.link fixed
  exact ⟨hits ▸ h.hits, events ▸ h.events, notices ▸ h.notices, responses ▸ h.responses, link ▸ h.inbound⟩

theorem shedFollows_of_stored {s t : State} (stored : t.stored = s.stored) (h : s.ShedFollows) : t.ShedFollows := by
  have hits : t.rq.hits = s.rq.hits := congrArg Stored.hits stored
  have shed : t.rq.shed = s.rq.shed := congrArg Stored.shed stored
  refine ⟨?_, ?_, ?_, ?_⟩ <;> rw [hits]
  · exact h.capacity
  all_goals rw [shed]
  · exact h.one
  · exact h.two
  · exact h.three

/-- Work that writes neither queue nor descriptor. -/
theorem Routine.of_stored {s t : State} (fixed : t.fixed = s.fixed) (stored : t.stored = s.stored)
    (machines : ∀ ch : Channel, s.acq.allows s.dets[ch].machine → s.acq.allows t.dets[ch].machine)
    (contexts : s.StandsIn s.acq → ¬ s.acq.holdsHits → ∀ k : Fin 4, t.asm.contexts[k] = none)
    (factors : t.cond.factors = s.cond.factors := by rfl) : Routine s t :=
  ⟨fixed, withinCapacity_of_stored fixed stored, shedFollows_of_stored stored, .of_segments (congrArg Stored.segments stored),
    machines, fun h => ⟨fun ch => machines ch (h.machines ch), contexts h⟩,
    .of_same (congrArg Stored.hits stored) (congrArg Stored.events stored) (.of_same factors)⟩

/-- Work that writes neither queue, descriptor, detector nor context. -/
theorem Routine.of_same {s t : State} (fixed : t.fixed = s.fixed) (stored : t.stored = s.stored) (dets : t.dets = s.dets)
    (contexts : t.asm.contexts = s.asm.contexts) (factors : t.cond.factors = s.cond.factors := by rfl) : Routine s t :=
  .of_stored fixed stored (fun ch => by rw [dets]; exact id) (fun h rests => by rw [contexts]; exact h.contexts rests) factors

theorem Booked.routine {s t : State} (h : Booked s t) (owners : KeepsOwners s t) (latched : Latches s t) : Routine s t := by
  have stands : ∀ a, s.StandsIn a → t.StandsIn a := fun a k =>
    ⟨by rw [h.dets]; exact k.machines, by rw [h.asm]; exact k.contexts⟩
  refine ⟨by rw [h.eq]; rfl, fun c => ⟨?_, ?_, h.notices c.notices, ?_, ?_⟩, h.shed, owners, fun ch => ?_, stands s.acq,
    .of_same h.hits h.events latched⟩
  · rw [h.hits]; exact c.hits
  · rw [h.events]; exact c.events
  · rw [h.responses]; exact c.responses
  · rw [h.link]; exact c.inbound
  · rw [h.dets]; exact id

theorem Fated.routine {ch : Channel} {s t : State} (h : Fated ch s t) (owners : KeepsOwners s t) (hits : s.rq.hits <+: t.rq.hits)
    (latched : Latches s t) : Routine s t := by
  have dets : t.dets = s.dets := by rw [h.eq]
  have asm : t.asm = s.asm := by rw [h.eq]
  have events : t.rq.events = s.rq.events := by rw [h.eq]
  have responses : t.rq.responses = s.rq.responses := by rw [h.eq]
  have link : t.link = s.link := by rw [h.eq]
  refine ⟨by rw [h.eq]; rfl, fun c => ⟨h.hits c.hits, ?_, h.notices c.notices, ?_, ?_⟩, h.shed, owners, fun ch => ?_,
    fun k => ⟨by rw [dets]; exact k.machines, by rw [asm]; exact k.contexts⟩, hits, events ▸ List.prefix_rfl,
    latched⟩
  · rw [events]; exact c.events
  · rw [responses]; exact c.responses
  · rw [link]; exact c.inbound
  · rw [dets]; exact id

/-- Routine work one piece after another. -/
theorem Routine.foldl {α : Type} {turn : State → α → State} (h : ∀ s a, Routine s (turn s a)) (l : List α) (s : State) :
    Routine s (l.foldl turn s) := by
  induction l generalizing s with
  | nil => exact .refl s
  | cons a l ih => exact (h s a).trans (ih _)

/-! ## Detectors and contexts one at a time -/

theorem Acq.allows_blocked (a : Acq) : a.allows .blocked := by
  cases a <;> simp [Acq.allows]

/-- Only ARMED allows IDLE, and it allows every machine state. -/
theorem Acq.allows_of_idle {a : Acq} (h : a.allows .idle) (m : DetState) : a.allows m := by
  cases a <;> simp [Acq.allows] at h ⊢

theorem Acq.holdsHits_of_inHit {a : Acq} {h : OpenHit} (allowed : a.allows (.inHit h)) : a.holdsHits := by
  cases a <;> simp [Acq.allows, Acq.holdsHits] at allowed ⊢

theorem Acq.allows_inHit {a : Acq} {h : OpenHit} (allowed : a.allows (.inHit h)) (k : OpenHit) : a.allows (.inHit k) := by
  cases a <;> simp [Acq.allows] at allowed ⊢

/-- A detector changed to a machine state that its acquisition state allows. -/
theorem routine_modDet {s : State} {ch : Channel} {f : Detector → Detector}
    (allowed : s.acq.allows s.dets[ch].machine → s.acq.allows (f s.dets[ch]).machine) : Routine s (s.modDet ch f) := by
  refine .of_stored rfl rfl (fun j => ?_) fun h => h.contexts
  rw [State.modDet_dets, upd_get]
  split
  · next same => subst same; exact allowed
  · exact id

/-- A detector changed in other fields than its machine state. -/
theorem routine_modDet_of_machine {s : State} {ch : Channel} {f : Detector → Detector}
    (machine : (f s.dets[ch]).machine = s.dets[ch].machine) : Routine s (s.modDet ch f) :=
  routine_modDet fun allowed => machine ▸ allowed

theorem routine_modOpen (s : State) (ch : Channel) (f : OpenHit → OpenHit) : Routine s (s.modOpen ch f) := by
  refine routine_modDet fun allowed => ?_
  unfold Detector.modOpen
  split
  · next isOpen => exact Acq.allows_inHit (isOpen ▸ allowed) _
  all_goals exact allowed

theorem routine_modLane (s : State) (ch : Channel) (f : Lane → Lane) : Routine s (s.modLane ch f) := .of_same rfl rfl rfl rfl

theorem routine_modCounts (s : State) (ch : Channel) (f : ChannelCounts → ChannelCounts) : Routine s (s.modCounts ch f) :=
  .of_same rfl rfl rfl rfl

theorem routine_modFigures (s : State) (ch : Channel) (f : IntervalFigures → IntervalFigures) : Routine s (s.modFigures ch f) :=
  .of_same rfl rfl rfl rfl

theorem routine_modAsm (s : State) {f : Assembler → Assembler} (contexts : (f s.asm).contexts = s.asm.contexts) :
    Routine s (s.modAsm f) := .of_same rfl rfl rfl contexts

theorem routine_putContext_none (s : State) (k : Fin 4) : Routine s (s.putContext k none) := by
  refine .of_stored rfl rfl (fun _ => id) fun h rests j => ?_
  rw [State.putContext_asm]
  show (upd s.asm.contexts k fun _ => none)[j] = none
  rw [upd_get]
  split
  · rfl
  · exact h.contexts rests j

/-- A context replaced in a state that has one in use. -/
theorem routine_putContext_of_used {s : State} {j : Fin 4} (used : s.asm.contexts[j].isSome) (k : Fin 4) (o : Option Context) :
    Routine s (s.putContext k o) := by
  refine .of_stored rfl rfl (fun _ => id) fun h rests => ?_
  rw [h.contexts rests j] at used
  cases used

/-! ## Settings, segments and records -/

theorem setFactor_routine (f : Factor) (index : Nat) (reached : Option Nat) (s : State) : Routine s (setFactor f index reached s) :=
  (setFactor_booked f index reached s).routine (setFactor_keepsOwners f index reached s) (setFactor_latches f index reached s)

theorem raise_routine (f : Factor) (s : State) : Routine s (raise f s) := setFactor_routine f _ _ s

theorem evalShed_routine (s : State) : Routine s (evalShed s) := (evalShed_booked s).routine (evalShed_keepsOwners s) (evalShed_latches s)

theorem freeSegmentOf_routine (ch : Channel) (hitId : Counter) (s : State) : Routine s (freeSegmentOf ch hitId s) :=
  (freeSegmentOf_booked ch hitId s).routine (freeSegmentOf_keepsOwners ch hitId s) (freeSegmentOf_latches ch hitId s)

theorem segmentLeavesContext_routine (ch : Channel) (hitId : Counter) (s : State) :
    Routine s (segmentLeavesContext ch hitId s) :=
  (segmentLeavesContext_booked ch hitId s).routine (segmentLeavesContext_keepsOwners ch hitId s) (segmentLeavesContext_latches ch hitId s)

theorem segmentFill_routine (ch : Channel) (hitId : Counter) (smp : Sample) (s : State) :
    Routine s (segmentFill ch hitId smp s) := (segmentFill_booked ch hitId smp s).routine (segmentFill_keepsOwners ch hitId smp s) (segmentFill_latches ch hitId smp s)

theorem segmentFillEnd_routine (ch : Channel) (hitId : Counter) (s : State) : Routine s (segmentFillEnd ch hitId s) :=
  (segmentFillEnd_booked ch hitId s).routine (segmentFillEnd_keepsOwners ch hitId s) (segmentFillEnd_latches ch hitId s)

theorem segmentWait_routine (ch : Channel) (hitId : Counter) (s : State) : Routine s (segmentWait ch hitId s) :=
  (segmentWait_booked ch hitId s).routine (segmentWait_keepsOwners ch hitId s) (segmentWait_latches ch hitId s)

theorem ringWrite_routine (ch : Channel) (smp : Sample) (s : State) : Routine s (ringWrite ch smp s) := .of_same rfl rfl rfl rfl

theorem ringClear_routine (ch : Channel) (s : State) : Routine s (ringClear ch s) := .of_same rfl rfl rfl rfl

theorem decideCapture_routine (ch : Channel) (hitId : Counter) (arrival : TestTime) (s : State) :
    Routine s (decideCapture ch hitId arrival s) := by
  obtain ⟨u, booked, decided | decided⟩ := decideCapture_spec ch hitId arrival s
  · exact decided ▸ booked.routine (decided ▸ decideCapture_keepsOwners ch hitId arrival s)
      (decided ▸ decideCapture_latches ch hitId arrival s)
  · have owners : KeepsOwners s u := (decided ▸ decideCapture_keepsOwners ch hitId arrival s).trans (.of_segments rfl)
    have latched : Latches s u := (decided ▸ decideCapture_latches ch hitId arrival s).trans (.of_same rfl)
    rw [decided]
    exact (booked.routine owners latched).trans (routine_modOpen u ch _)

theorem shedRecord_routine (c : ClosedHit) (s : State) : Routine s (shedRecord c s) :=
  (routine_modCounts s c.channel _).trans (freeSegmentOf_routine c.channel c.hitId _)

theorem loseRecord_routine (c : ClosedHit) (s : State) : Routine s (loseRecord c s) :=
  (((routine_modCounts s c.channel _).trans (routine_modFigures _ c.channel _)).trans
    (freeSegmentOf_routine c.channel c.hitId _)).trans (raise_routine .hitLoss _)

theorem admitRecord_keepsOwners (p : Path) (c : ClosedHit) (t : EventTag) (s : State) : KeepsOwners s (admitRecord p c t s) := by
  have counted : KeepsOwners s (s.modCounts c.channel fun k => { k with gap := 0 }) := .of_segments rfl
  refine (counted.trans (segmentAdmitted_keepsOwners p c.channel c.hitId _)).trans (KeepsOwners.trans ?_ (evalShed_keepsOwners _))
  exact .of_segments rfl

theorem admitRecord_hits (p : Path) (c : ClosedHit) (t : EventTag) (s : State) : s.rq.hits <+: (admitRecord p c t s).rq.hits := by
  unfold admitRecord
  simp only
  rw [(evalShed_booked _).hits]
  show _ <+: (segmentAdmitted _ _ _ _).1.rq.hits ++ [_]
  rw [(segmentAdmitted_booked p c.channel c.hitId _).hits]
  exact List.prefix_append _ _

theorem admitRecord_latches (p : Path) (c : ClosedHit) (t : EventTag) (s : State) : Latches s (admitRecord p c t s) := by
  have counted : Latches s (s.modCounts c.channel fun k => { k with gap := 0 }) := .of_same rfl
  refine (counted.trans (segmentAdmitted_latches p c.channel c.hitId _)).trans (Latches.trans ?_ (evalShed_latches _))
  exact .of_same rfl

theorem offerStandalone_routine (t : EventTag) (c : ClosedHit) (s : State) : Routine s (offerStandalone t c s) := by
  refine (offerStandalone_fated t c s).routine ?_ ?_ ?_
  · unfold offerStandalone
    split
    · exact (shedRecord_routine c s).owners
    · split
      · exact (loseRecord_routine c s).owners
      · exact admitRecord_keepsOwners _ c t s
  · unfold offerStandalone
    split
    · exact (shedRecord_routine c s).grows.hits
    · split
      · exact (loseRecord_routine c s).grows.hits
      · exact admitRecord_hits _ c t s
  · unfold offerStandalone
    split
    · exact (shedRecord_routine c s).grows.latched
    · split
      · exact (loseRecord_routine c s).grows.latched
      · exact admitRecord_latches _ c t s

theorem offerMember_routine (eventId : Counter) (c : ClosedHit) (s : State) : Routine s (offerMember eventId c s) := by
  refine (offerMember_fated eventId c s).routine ?_ ?_ ?_
  · unfold offerMember
    split
    · exact (loseRecord_routine c s).owners
    · exact admitRecord_keepsOwners _ c _ s
  · unfold offerMember
    split
    · exact (loseRecord_routine c s).grows.hits
    · exact admitRecord_hits _ c _ s
  · unfold offerMember
    split
    · exact (loseRecord_routine c s).grows.latched
    · exact admitRecord_latches _ c _ s

/-! ## Contexts -/

theorem dissolveOpen_routine (m : Member) (s : State) : Routine s (dissolveOpen m s) := by
  unfold dissolveOpen
  split
  · exact .refl s
  · exact (routine_modOpen s m.channel _).trans (segmentLeavesContext_routine m.channel m.hitId _)

theorem dissolve_routine (k : Fin 4) (members : List Member) (s : State) : Routine s (dissolve k members s) := by
  have counted : ∀ u : State, Routine u
      (if members.isEmpty then u else u.modAsm fun a => { a with eventsDissolved := a.eventsDissolved + 1 }) := by
    intro u
    split
    · exact .refl u
    · exact routine_modAsm u rfl
  exact (((routine_putContext_none s k).trans (counted _)).trans
    (Routine.foldl (fun u c => offerStandalone_routine EventTag.none (orphan c) u) (members.filterMap Member.parked) _)).trans
    (Routine.foldl (fun u m => dissolveOpen_routine m u) members _)

theorem releaseMember_routine (m : Member) (s : State) : Routine s (releaseMember m s) := by
  unfold releaseMember
  split
  · exact offerStandalone_routine _ _ s
  · exact segmentLeavesContext_routine _ _ s

theorem release_routine (k : Fin 4) (c : Context) (s : State) : Routine s (release k c s) :=
  ((routine_putContext_none s k).trans (routine_modAsm _ rfl)).trans
    (Routine.foldl (fun u m => releaseMember_routine m u) c.members _)

theorem zoneRule_routine (z : Zone) (s : State) : Routine s (zoneRule z s) := by
  have counted : Routine s
      { s with hist := { s.hist with holdCounts := upd s.hist.holdCounts z fun n => n + 1 } } := .of_same rfl rfl rfl rfl
  unfold zoneRule
  simp only
  split
  · split
    · exact counted.trans (raise_routine _ _)
    · exact counted
  · exact .refl s

theorem handMembers_routine (eventId : Counter) (hits : List ClosedHit) (s : State) : Routine s (handMembers eventId hits s) := by
  unfold handMembers
  split
  · exact Routine.foldl (fun u c => offerMember_routine eventId c u) hits s
  · exact Routine.foldl (fun u c => shedRecord_routine c u) hits s

/-- A record more in the Event Queue, which has room. -/
theorem queued_routine {s : State} (r : EventRecord) (room : s.rq.events.length < eventCapacity) :
    Routine s { s with rq := { s.rq with events := s.rq.events ++ [r] } } :=
  ⟨rfl, fun c => ⟨c.hits, by simpa using room, c.notices, c.responses, c.inbound⟩,
    fun h => ⟨h.capacity, h.one, h.two, h.three⟩, .of_segments rfl, fun _ => id, fun h => ⟨h.machines, h.contexts⟩,
    List.prefix_rfl, List.prefix_append _ _, .of_same rfl⟩

theorem queueEvent_routine {s : State} (r : EventRecord) (hits : List ClosedHit) (room : s.rq.events.length < eventCapacity) :
    Routine s (queueEvent r hits s) := by
  have handed := ((queued_routine r room).trans (routine_modAsm _
    (f := fun a => { a with eventsQueued := a.eventsQueued + 1 }) rfl)).trans (handMembers_routine r.eventId hits _)
  unfold queueEvent
  simp only
  refine handed.trans (Routine.trans ?_ (zoneRule_routine r.zone _))
  exact .of_same rfl rfl rfl rfl

theorem loseEvent_routine (eventId : Counter) (hits : List ClosedHit) (s : State) : Routine s (loseEvent eventId hits s) :=
  ((routine_modAsm s (f := fun a => { a with eventsLost := a.eventsLost + 1 }) rfl).trans (raise_routine .eventLoss _)).trans
    (Routine.foldl (fun u c => offerStandalone_routine _ c u) hits _)

theorem complete_routine (k : Fin 4) (c : Context) (m1 m2 : Member) (s : State) : Routine s (complete k c m1 m2 s) := by
  have taken : Routine s ((s.putContext k none).modAsm fun a => { a with nextEvent := a.nextEvent + 1 }) :=
    (routine_putContext_none s k).trans (routine_modAsm _ rfl)
  unfold complete
  simp only
  split
  · next room => exact taken.trans (queueEvent_routine _ _ room)
  · exact taken.trans (loseEvent_routine _ _ _)

theorem testComplete_routine {s : State} {j : Fin 4} (used : s.asm.contexts[j].isSome) (k : Fin 4) (c : Context) :
    Routine s (testComplete k c s) := by
  unfold testComplete
  split
  · split
    · exact complete_routine k c _ _ s
    · exact routine_putContext_of_used used k _
  · exact routine_putContext_of_used used k _

theorem parkMember_routine {s : State} {j : Fin 4} (used : s.asm.contexts[j].isSome) (k : Fin 4) (c : Context) (hit : ClosedHit) :
    Routine s (parkMember k c hit s) := by
  have waited := segmentWait_routine hit.channel hit.hitId s
  have usedThen : (segmentWait hit.channel hit.hitId s).asm.contexts[j].isSome := by
    rw [(segmentWait_booked hit.channel hit.hitId s).asm]; exact used
  have put := fun c' => waited.trans (routine_putContext_of_used usedThen k (some c'))
  unfold parkMember
  simp only
  cases hit.cause with
  | aborted => exact put _
  | clockFault => exact put _
  | normal | truncated | laneFault =>
    simp only
    split
    · exact waited.trans (testComplete_routine usedThen k _)
    · exact put _

theorem removeMember_routine {s : State} {j : Fin 4} (used : s.asm.contexts[j].isSome) (k : Fin 4) (c : Context) (ch : Channel)
    (hitId : Counter) : Routine s (removeMember k c ch hitId s) := by
  unfold removeMember
  simp only
  split
  · exact dissolve_routine k _ s
  · split
    · split
      · exact dissolve_routine k _ s
      · exact testComplete_routine used k _
    · exact routine_putContext_of_used used k _

theorem judgeExpired_routine (k : Fin 4) (s : State) : Routine s (judgeExpired k s) := by
  unfold judgeExpired
  split
  · exact .refl s
  · next c inUse =>
    split
    · exact release_routine k c s
    · exact testComplete_routine (j := k) (by rw [inUse]; rfl) k c

theorem routine_settle (due : List (Fin 4 × Context)) (s : State) (used : due ≠ [] → ∃ j : Fin 4, s.asm.contexts[j].isSome) :
    Routine s (due.foldl (fun s a => s.putContext a.1 (some { a.2 with settling := true })) s) := by
  induction due generalizing s with
  | nil => exact .refl s
  | cons a due ih =>
    obtain ⟨j, inUse⟩ := used (List.cons_ne_nil a due)
    refine (routine_putContext_of_used inUse a.1 _).trans (ih _ fun _ => ⟨a.1, ?_⟩)
    show (upd s.asm.contexts a.1 _)[a.1].isSome
    rw [upd_same]
    rfl

theorem expireWindows_routine (s : State) : Routine s (expireWindows s) := by
  unfold expireWindows
  simp only
  refine (routine_settle _ s fun some => ?_).trans
    (Routine.foldl (fun u (a : Fin 4 × Context) => judgeExpired_routine a.1 u) _ _)
  obtain ⟨a, ha⟩ := List.exists_mem_of_ne_nil _ some
  have inUse := mem_select (mem_byTime ha)
  exact ⟨a.1, by rw [inUse]; rfl⟩

theorem dissolveAll_routine (s : State) : Routine s (dissolveAll s) := by
  refine Routine.foldl (fun u k => ?_) contextNumbers s
  split
  · exact dissolve_routine k _ u
  · exact .refl u

/-! ## Detectors -/

theorem applyEntry_routine (ch : Channel) (e : ChannelEntry) (s : State) : Routine s (applyEntry ch e s) := by
  have entered : Routine s ((s.modDet ch (Detector.withEntry e)).modLane ch (Lane.follow e.enabled s.acq s.ticking)) :=
    (routine_modDet_of_machine rfl).trans (routine_modLane _ ch _)
  unfold applyEntry
  simp only
  split
  · exact entered
  · refine entered.trans (routine_modDet fun allowed => ?_)
    unfold Detector.block
    split
    · exact allowed
    all_goals exact Acq.allows_blocked _

theorem applyWaiting_routine (ch : Channel) (s : State) : Routine s (applyWaiting ch s) := by
  unfold applyWaiting
  split
  · exact applyEntry_routine ch _ s
  · exact .refl s

/-- R53, R57: what follows once a detector without an open hit is BLOCKED. -/
theorem blockDetector_after {ch : Channel} {s : State} (closed : ∀ h, s.dets[ch].machine ≠ .inHit h) :
    Routine (s.modDet ch Detector.block) (blockDetector ch s) := by
  unfold blockDetector
  cases isOpen : s.dets[ch].machine with
  | inHit h => exact absurd isOpen (closed h)
  | idle | rearmHold | blocked => exact applyWaiting_routine ch _

theorem blockDetector_routine (ch : Channel) (s : State) : Routine s (blockDetector ch s) := by
  by_cases isOpen : ∃ h, s.dets[ch].machine = .inHit h
  · obtain ⟨h, isOpen⟩ := isOpen
    unfold blockDetector
    rw [isOpen]
    exact .refl s
  · have closed := not_exists.mp isOpen
    exact (routine_modDet fun _ => by rw [Detector.block_closed closed]; exact Acq.allows_blocked _).trans
      (blockDetector_after closed)

theorem rejectHit_routine (c : ClosedHit) (s : State) : Routine s (rejectHit c s) := by
  have freed := (routine_modCounts s c.channel fun k => { k with filtered := k.filtered + 1 }).trans
    (freeSegmentOf_routine c.channel c.hitId _)
  unfold rejectHit
  simp only
  split
  · exact freed
  · next k _ =>
    split
    · next inUse => exact freed.trans (removeMember_routine (j := k) (by rw [inUse]; rfl) k _ _ _)
    · exact freed

theorem passHit_routine (c : ClosedHit) (s : State) : Routine s (passHit c s) := by
  unfold passHit
  split
  · exact offerStandalone_routine _ c s
  · next k _ =>
    split
    · next inUse => exact parkMember_routine (j := k) (by rw [inUse]; rfl) k _ c
    · exact offerStandalone_routine _ c s

theorem handOn_routine (c : ClosedHit) (s : State) : Routine s (handOn c s) := by
  have ended := segmentFillEnd_routine c.channel c.hitId s
  unfold handOn
  simp only
  split
  · exact ended.trans (rejectHit_routine c _)
  · exact ended.trans (passHit_routine c _)

theorem continuousRun_routine (ch : Channel) (cause : Closure) (s : State) : Routine s (continuousRun ch cause s) := by
  have counted (f : Detector → Nat) : Routine s (s.modDet ch fun d => { d with contRun := f d }) := routine_modDet_of_machine rfl
  unfold continuousRun
  cases cause with
  | truncated =>
    simp only
    split
    · exact (counted _).trans (raise_routine _ _)
    · exact counted _
  | normal | laneFault | aborted | clockFault => exact counted _

/-- R48, R49, R56: the rearm hold follows a closure in ARMED only. -/
theorem Closure.acq_of_rearms {cause : Closure} {a : Acq} (h : cause.rearms a = true) : a = .armed := by
  cases cause <;> simp_all [Closure.rearms]

theorem afterClosure_allowed (cause : Closure) (a : Acq) (d : Detector) : a.allows (d.afterClosure (cause.rearms a)).machine := by
  unfold Detector.afterClosure
  cases h : cause.rearms a with
  | true => rw [Closure.acq_of_rearms h]; trivial
  | false => exact a.allows_blocked

/-- R50 to R52, R57: what follows in a closure once the detector has left IN_HIT. -/
theorem closeHit_after {ch : Channel} {s : State} {h : OpenHit} (isOpen : s.dets[ch].machine = .inHit h) (tick : TestTime)
    (cause : Closure) : Routine (s.modDet ch (Detector.afterClosure (cause.rearms s.acq))) (closeHit ch tick cause s) := by
  have handed := (handOn_routine (closedHitOf ch s.dets[ch].active tick cause h)
    (s.modDet ch (Detector.afterClosure (cause.rearms s.acq)))).trans (continuousRun_routine ch cause _)
  unfold closeHit
  rw [isOpen]
  simp only
  split
  · exact handed
  · exact handed.trans (applyWaiting_routine ch _)

theorem closeHit_routine (ch : Channel) (tick : TestTime) (cause : Closure) (s : State) : Routine s (closeHit ch tick cause s) := by
  cases isOpen : s.dets[ch].machine with
  | inHit h => exact (routine_modDet fun _ => afterClosure_allowed cause s.acq _).trans (closeHit_after isOpen tick cause)
  | idle | rearmHold | blocked =>
    unfold closeHit
    rw [isOpen]
    exact .refl s

theorem raiseGuards_routine (e : ChannelEntry) (s : State) : Routine s (raiseGuards e s) := .of_same rfl rfl rfl rfl

theorem openHit_routine {ch : Channel} (smp : Sample) (hitId : Counter) {s : State} (idle : s.dets[ch].machine = .idle) :
    Routine s (openHit ch smp hitId s) := by
  have taken : Routine s { s with nextHit := advanceHitId hitId } := .of_same rfl rfl rfl rfl
  have opened : Routine s (({ s with nextHit := advanceHitId hitId } : State).modDet ch fun d =>
      { d with machine := .inHit (openingHit s ch smp hitId), hitsOpened := d.hitsOpened + 1 }) :=
    taken.trans (routine_modDet fun allowed => Acq.allows_of_idle (a := s.acq) (by rw [← idle]; exact allowed) _)
  have captured := ((opened.trans (decideCapture_routine ch hitId s.tt _)).trans (segmentFill_routine ch hitId smp _)).trans
    (routine_modFigures _ ch fun g => { g with opened := g.opened + 1 })
  unfold openHit
  simp only
  split
  · exact captured.trans (raiseGuards_routine _ _)
  · exact captured

theorem takeInHit_routine (ch : Channel) (smp : Sample) (h : OpenHit) (s : State) : Routine s (takeInHit ch smp h s).state := by
  have filled (k : OpenHit) : Routine s (segmentFill ch k.hitId smp (s.modOpen ch fun _ => k)) :=
    (routine_modOpen s ch _).trans (segmentFill_routine ch k.hitId smp _)
  unfold takeInHit
  simp only
  split
  · exact (filled _).trans (closeHit_routine ch _ _ _)
  · exact filled _

theorem takeIdle_routine {ch : Channel} (smp : Sample) {s : State} (idle : s.dets[ch].machine = .idle) :
    Routine s (takeIdle ch smp s).state := by
  unfold takeIdle
  split
  · split
    · exact openHit_routine smp _ idle
    · exact .refl s
  · exact .refl s

/-- R53: a BLOCKED detector leaves BLOCKED in ARMED only. -/
theorem unblock_allowed {a : Acq} {d : Detector} (allowed : a.allows d.machine) : a.allows (d.unblock a).machine := by
  unfold Detector.unblock
  split
  · split
    · next armed => rw [armed]; trivial
    · exact allowed
  all_goals exact allowed

theorem takeSample_routine (ch : Channel) (smp : Sample) (s : State) : Routine s (takeSample ch smp s).state := by
  have unblocked : Routine s (s.modDet ch (Detector.unblock s.acq)) := routine_modDet unblock_allowed
  unfold takeSample
  simp only
  split
  · next idle => exact unblocked.trans (takeIdle_routine smp idle)
  · exact unblocked.trans (takeInHit_routine ch smp _ _)
  all_goals exact unblocked

/-! ## The row -/

theorem departLive_routine (ch : Channel) (s : State) : Routine s (departLive ch s) := by
  unfold departLive
  split
  · exact closeHit_routine ch _ _ s
  all_goals exact blockDetector_routine ch s

theorem laneFaulted_routine (ch : Channel) (wasLive : Bool) (s : State) : Routine s (laneFaulted ch wasLive s) := by
  have raised := raise_routine (.laneFault (ch.castLE (by decide))) s
  unfold laneFaulted
  simp only
  split
  · exact raised.trans (departLive_routine ch _)
  · exact raised

theorem consumeSample_routine (ch : Channel) (smp : Sample) (s : State) : Routine s (consumeSample ch smp s) :=
  (ringWrite_routine ch smp s).trans (routine_modFigures _ ch _)

theorem learnTick_routine (ch : Channel) (delivered : Option Sample) (s : State) : Routine s (learnTick ch delivered s) := by
  unfold learnTick
  split
  · exact routine_modDet_of_machine (by cases delivered <;> rfl)
  all_goals exact .refl s

theorem takeDelivered_routine (ch : Channel) (wasLive : Bool) (r : LaneTick) (s : State) :
    Routine s (takeDelivered ch wasLive r s).state := by
  unfold takeDelivered
  split
  · next smp _ => exact (takeSample_routine ch smp s).trans (consumeSample_routine ch smp _)
  · simp only
    split
    · exact laneFaulted_routine ch wasLive s
    · exact .refl s

theorem takeChannel_routine (words : Vector LaneWord 16) (ch : Channel) (s : State) :
    Routine s (takeChannel words ch s).state := by
  unfold takeChannel
  simp only
  generalize s.lanes[ch].beginTick.isLive = wasLive
  generalize s.lanes[ch].tick s.tables.setup.settleMs words[ch] = r
  have entered : Routine s (if r.entered then ringClear ch (s.modLane ch fun _ => r.lane) else s.modLane ch fun _ => r.lane) := by
    split
    · exact (routine_modLane s ch _).trans (ringClear_routine ch _)
    · exact routine_modLane s ch _
  generalize (if r.entered then ringClear ch (s.modLane ch fun _ => r.lane) else s.modLane ch fun _ => r.lane) = u at entered ⊢
  have learned := (entered.trans (takeDelivered_routine ch wasLive r _)).trans (learnTick_routine ch r.delivered _)
  split
  · exact learned
  · exact learned.trans (routine_modDet_of_machine rfl)

theorem takeRow_routine (words : Vector LaneWord 16) (chs : List Channel) (acc : State × List Channel) :
    Routine acc.1 (takeRow words chs acc).1 := by
  induction chs generalizing acc with
  | nil => exact .refl _
  | cons ch chs ih =>
    unfold takeRow
    exact (takeChannel_routine words ch acc.1).trans (ih (_, _))

/-- A context for the hit that a detector holds, which its acquisition state then allows. -/
theorem routine_putContext_of_inHit {s : State} {ch : Channel} {h : OpenHit} (isOpen : s.dets[ch].machine = .inHit h) (k : Fin 4)
    (o : Option Context) : Routine s (s.putContext k o) :=
  .of_stored rfl rfl (fun _ => id) fun stands rests =>
    absurd (Acq.holdsHits_of_inHit (isOpen ▸ stands.machines ch)) rests

theorem offerOpening_routine {s : State} {ch : Channel} {h : OpenHit} (isOpen : s.dets[ch].machine = .inHit h) :
    Routine s (offerOpening ch h s) := by
  unfold offerOpening
  split
  · exact routine_putContext_of_inHit isOpen _ _
  · split
    · split
      · exact routine_putContext_of_inHit isOpen _ _
      · exact (routine_modAsm s (f := fun a => { a with hitsNoContext := a.hitsNoContext + 1 }) rfl).trans
          (routine_modOpen _ ch _)
    · exact .refl s

theorem judgeOpening_routine (ch : Channel) (s : State) : Routine s (judgeOpening ch s) := by
  unfold judgeOpening
  split
  · next isOpen =>
    split
    · exact (routine_modOpen s ch _).trans (routine_modCounts _ ch _)
    · exact offerOpening_routine isOpen
  all_goals exact .refl s

theorem releaseOpenings_routine (openings : List Channel) (s : State) : Routine s (releaseOpenings openings s) :=
  Routine.foldl (fun u ch => judgeOpening_routine ch u) openings s

end Sys2Proof.Machine
end

section
/-! What the Acquisition Controller, the pressure lane, the interval timer and the uplink scheduler leave as it was: tables, CRCs, lock,
waiting requests and Test Time. What they write goes on meeting the manual's invariants of queues, blocks and pressure. -/

namespace Sys2Proof.Machine

/-! ## The relation -/

/-- What no event but a request writes. -/
structure Anchor where
  tables : Tables
  crcs : TableCrcs
  lock : Option Counter
  inbound : List Request

/-- That part of a state. -/
def State.anchor (s : State) : Anchor := { tables := s.tables, crcs := s.crcs, lock := s.lock, inbound := s.link.inbound }

/-- The work of an event that is no request: it leaves what is anchored, begins no load, gives no response, and keeps the invariants of
pressure, queues, shed level and Waveform Store. -/
structure Keeps (s t : State) : Prop where
  anchor : t.anchor = s.anchor
  loader : t.loader = s.loader ∨ t.loader = none
  responses : t.rq.responses.length ≤ s.rq.responses.length
  peak : s.PeakCovers → t.PeakCovers
  capacity : s.WithinCapacity → t.WithinCapacity
  shed : s.ShedFollows → t.ShedFollows
  owners : KeepsOwners s t

/-- The work of such an event in which no tick passes. -/
structure Upkeep (s t : State) : Prop extends Keeps s t where
  tt : t.tt = s.tt

theorem Keeps.refl (s : State) : Keeps s s := ⟨rfl, .inl rfl, le_rfl, id, id, id, id⟩

theorem Keeps.trans {s t u : State} (h : Keeps s t) (k : Keeps t u) : Keeps s u := by
  refine ⟨k.anchor.trans h.anchor, ?_, k.responses.trans h.responses, k.peak ∘ h.peak, k.capacity ∘ h.capacity, k.shed ∘ h.shed, k.owners ∘ h.owners⟩
  rcases k.loader with same | idle
  · rw [same]; exact h.loader
  · exact .inr idle

theorem Keeps.inbound {s t : State} (h : Keeps s t) : t.link.inbound = s.link.inbound := congrArg Anchor.inbound h.anchor

theorem Upkeep.refl (s : State) : Upkeep s s := ⟨.refl s, rfl⟩

theorem Upkeep.trans {s t u : State} (h : Upkeep s t) (k : Upkeep t u) : Upkeep s u :=
  ⟨h.toKeeps.trans k.toKeeps, k.tt.trans h.tt⟩

theorem Routine.keeps {s t : State} (h : Routine s t) : Keeps s t := by
  have pressure : t.hist.pressure = s.hist.pressure := congrArg Fixed.pressure h.fixed
  have pMax : t.hist.pMax = s.hist.pMax := congrArg Fixed.pMax h.fixed
  refine ⟨congrArg (fun f : Fixed => Anchor.mk f.tables f.crcs f.lock f.link.inbound) h.fixed,
    .inl (congrArg Fixed.loader h.fixed), (congrArg (fun f : Fixed => f.responses.length) h.fixed).le, fun k => ⟨?_, ?_⟩, h.capacity, h.shed, h.owners⟩
  · rw [pressure, pMax]; exact k.covers
  · rw [pMax]; exact k.most

theorem Routine.upkeep {s t : State} (h : Routine s t) : Upkeep s t := ⟨h.keeps, h.tt⟩

/-- What the invariants and the anchored parts stand on. -/
structure Inert where
  anchor : Anchor
  loader : Option Load
  pressure : Nat
  pMax : Nat
  responses : List Response
  stored : Stored

/-- That part of a state. -/
def State.inert (s : State) : Inert :=
  { anchor := s.anchor, loader := s.loader, pressure := s.hist.pressure, pMax := s.hist.pMax, responses := s.rq.responses,
    stored := s.stored }

theorem Keeps.of_inert {s t : State} (h : t.inert = s.inert) : Keeps s t := by
  have stored : t.stored = s.stored := congrArg Inert.stored h
  have hits : t.rq.hits = s.rq.hits := congrArg Stored.hits stored
  have events : t.rq.events = s.rq.events := congrArg Stored.events stored
  have notices : t.rq.notices = s.rq.notices := congrArg Stored.notices stored
  have responses : t.rq.responses = s.rq.responses := congrArg Inert.responses h
  have inbound : t.link.inbound = s.link.inbound := congrArg (fun i : Inert => i.anchor.inbound) h
  have pressure : t.hist.pressure = s.hist.pressure := congrArg Inert.pressure h
  have pMax : t.hist.pMax = s.hist.pMax := congrArg Inert.pMax h
  refine ⟨congrArg Inert.anchor h, .inl (congrArg Inert.loader h), (congrArg List.length responses).le, fun k => ⟨?_, ?_⟩,
    fun c => ⟨hits ▸ c.hits, events ▸ c.events, notices ▸ c.notices, responses ▸ c.responses, inbound ▸ c.inbound⟩,
    shedFollows_of_stored stored, .of_segments (congrArg Stored.segments stored)⟩
  · rw [pressure, pMax]; exact k.covers
  · rw [pMax]; exact k.most

theorem Upkeep.of_inert {s t : State} (h : t.inert = s.inert) (tt : t.tt = s.tt) : Upkeep s t := ⟨.of_inert h, tt⟩

/-! ## Entries to OFF -/

theorem detectorOff_routine (reason : OffReason) (ch : Channel) (s : State) : Routine s (detectorOff reason ch s) := by
  unfold detectorOff
  split
  · exact closeHit_routine ch _ _ s
  all_goals exact blockDetector_routine ch s

theorem leaveForOff_upkeep (s : State) : Upkeep s (leaveForOff s) := by
  unfold leaveForOff
  split <;> exact .of_inert rfl rfl

theorem dissolves_routine (reason : OffReason) (s : State) : Routine s (reason.dissolves s) := by
  cases reason with
  | off => exact .refl s
  | abort => exact dissolveAll_routine s
  | clock => exact dissolveAll_routine s

theorem stopped_upkeep (s : State) : Upkeep s (stopTimer (stopClock s)) := .of_inert rfl rfl

theorem enterOff_upkeep (reason : OffReason) (s : State) : Upkeep s (enterOff reason s) :=
  ((leaveForOff_upkeep s).trans ((Routine.foldl (fun u ch => detectorOff_routine reason ch u) channels _).trans
    (dissolves_routine reason _)).upkeep).trans (stopped_upkeep _)

theorem reachState_routine (s : State) : Routine s (reachState s) := setFactor_routine _ _ _ s

theorem failStart_upkeep (cause : StartFailure) (s : State) : Upkeep s (failStart cause s) := by
  have left := enterOff_upkeep .off s
  unfold failStart
  generalize enterOff .off s = u at left ⊢
  refine (left.trans ?_).trans (setFactor_routine .startFailed cause.number none _).upkeep
  exact .of_inert rfl rfl

/-! ## Starting, learning, draining -/

theorem enterStarting_upkeep (target : StartTarget) (s : State) : Upkeep s (enterStarting target s) := by
  unfold enterStarting requestStart
  split <;> exact .of_inert rfl rfl

theorem achieveLock_upkeep (s : State) : Upkeep s (achieveLock s) := .of_inert rfl rfl

theorem failLock_upkeep (s : State) : Upkeep s (failLock s) := by
  refine (Upkeep.trans ?_ (raise_routine .lockFail _).upkeep).trans (failStart_upkeep .lock _)
  exact .of_inert rfl rfl

theorem loseLock_upkeep (s : State) : Upkeep s (loseLock s) := by
  refine (Upkeep.trans ?_ (raise_routine .lockLost _).upkeep).trans (enterOff_upkeep .clock _)
  exact .of_inert rfl rfl

theorem endSyncing_upkeep (target : StartTarget) (s : State) : Upkeep s (endSyncing target s) := by
  unfold endSyncing
  split
  · exact .of_inert rfl rfl
  · exact failStart_upkeep _ s

theorem endSyncingSubstep_upkeep (s : State) : Upkeep s (endSyncingSubstep s) := by
  unfold endSyncingSubstep
  split
  · exact endSyncing_upkeep _ s
  all_goals exact .refl s

theorem startTimer_upkeep (s : State) : Upkeep s (startTimer s) := by
  rw [startTimer_eq]
  exact .of_inert rfl rfl

theorem enterLearning_upkeep (s : State) : Upkeep s (enterLearning s) := .of_inert rfl rfl

theorem enterStandby_upkeep (s : State) : Upkeep s (enterStandby s) := by
  refine (Upkeep.trans ?_ (startTimer_upkeep _)).trans (reachState_routine _).upkeep
  exact .of_inert rfl rfl

theorem endSettling_upkeep (target : StartTarget) (s : State) : Upkeep s (endSettling target s) := by
  cases target with
  | standby => exact enterStandby_upkeep s
  | armed => exact (startTimer_upkeep s).trans (enterLearning_upkeep _)

theorem endSettlingSubstep_upkeep (s : State) : Upkeep s (endSettlingSubstep s) := by
  unfold endSettlingSubstep
  split
  · exact endSettling_upkeep _ s
  all_goals exact .refl s

theorem learnChannel_routine (ch : Channel) (s : State) : Routine s (learnChannel ch s) := by
  have learned : Routine s (s.modDet ch Detector.learned) := routine_modDet_of_machine rfl
  unfold learnChannel
  simp only
  split
  · exact learned.trans (raise_routine _ _)
  · exact learned

theorem enterArmed_upkeep (s : State) : Upkeep s (enterArmed s) := by
  refine Upkeep.trans ?_ (reachState_routine _).upkeep
  exact .of_inert rfl rfl

theorem endLearning_upkeep (s : State) : Upkeep s (endLearning s) :=
  (Routine.foldl (fun u ch => learnChannel_routine ch u) channels s).upkeep.trans (enterArmed_upkeep _)

theorem reachDrainTarget_upkeep (target : DrainTarget) (s : State) : Upkeep s (reachDrainTarget target s) := by
  cases target with
  | standby => exact enterStandby_upkeep s
  | off => exact (enterOff_upkeep .off s).trans (reachState_routine _).upkeep

theorem checkDrain_upkeep (s : State) : Upkeep s (checkDrain s) := by
  unfold checkDrain
  split
  · split
    · exact reachDrainTarget_upkeep _ s
    · exact .refl s
  all_goals exact .refl s

theorem enterDraining_upkeep (target : DrainTarget) (s : State) : Upkeep s (enterDraining target s) := by
  rw [enterDraining_eq]
  refine Upkeep.trans ?_ (checkDrain_upkeep _)
  exact .of_inert rfl rfl

/-! ## Rows, pressure and intervals -/

theorem rowTaken_upkeep (words : Vector LaneWord 16) (s : State) : Upkeep s (rowTaken words s) := by
  have taken := takeRow_routine words channels (s, [])
  unfold rowTaken
  simp only
  generalize takeRow words channels (s, []) = r at taken ⊢
  refine (taken.trans (releaseOpenings_routine r.2 r.1)).upkeep.trans ?_
  exact .of_inert rfl rfl

theorem advanceTime_keeps (s : State) : Keeps s (advanceTime s) := .of_inert rfl

theorem tickRow_keeps (words : Vector LaneWord 16) (s : State) : Keeps s (tickRow words s) :=
  ((rowTaken_upkeep words s).trans (checkDrain_upkeep _)).toKeeps.trans (advanceTime_keeps _)

theorem tickRow_tt (words : Vector LaneWord 16) (s : State) : (tickRow words s).tt = s.tt + 1 := by
  have taken := ((rowTaken_upkeep words s).trans (checkDrain_upkeep _)).tt
  unfold tickRow
  generalize checkDrain (rowTaken words s) = u at taken ⊢
  exact congrArg (· + 1) taken

theorem lastTick_keeps (s : State) : Keeps s (lastTick s) := .of_inert rfl

theorem expireDueWindows_keeps (s : State) : Keeps s (expireDueWindows s) := by
  have tested := (expireWindows_routine s).upkeep.trans (checkDrain_upkeep _)
  unfold expireDueWindows drainAtTickStart
  simp only
  split
  · exact tested.toKeeps
  · exact tested.toKeeps.trans (lastTick_keeps _)

theorem discardPressureWord_upkeep (s : State) : Upkeep s (discardPressureWord s) := .of_inert rfl rfl

theorem pressureOf_le (e : SetupEntry) (code : Sample) : pressureOf e code ≤ pressureMax := by
  unfold pressureOf clampInt
  split
  · exact Nat.zero_le _
  · split <;> omega

/-- R118, R120: the peak covers a pressure as it is taken. -/
theorem goodPressureWord_upkeep (code : Sample) (s : State) : Upkeep s (goodPressureWord code s) := by
  have inRange := pressureOf_le s.tables.setup code
  refine ⟨⟨rfl, .inl rfl, le_rfl, fun h => ⟨Nat.le_max_right .., Nat.max_le.mpr ⟨h.most, inRange⟩⟩,
    fun c => ⟨c.hits, c.events, c.notices, c.responses, c.inbound⟩, fun h => ⟨h.capacity, h.one, h.two, h.three⟩,
    .of_segments rfl⟩, rfl⟩

theorem takePressureWord_upkeep (word : PressureWord) (s : State) : Upkeep s (takePressureWord word s) := by
  unfold takePressureWord
  split
  · split
    · exact discardPressureWord_upkeep s
    · exact goodPressureWord_upkeep _ s
  · exact discardPressureWord_upkeep s

theorem endSlot_upkeep (s : State) : Upkeep s (endSlot s) := by
  have begun (pl : PressureLane) : Upkeep s { s with pl := pl } := .of_inert rfl rfl
  unfold endSlot
  simp only
  generalize (if s.pl.slotFilled then s.pl.missingRun else min (s.pl.missingRun + 1) staleRun) = run
  split
  · exact (begun _).trans (raise_routine _ _).upkeep
  · exact begun _

theorem expireInterval_upkeep (s : State) : Upkeep s (expireInterval s) := .of_inert rfl rfl

theorem failSync_routine (ch : Channel) (s : State) : Routine s (failSync ch s) :=
  (routine_modLane s ch _).trans (laneFaulted_routine ch false _)

theorem endRearm_upkeep (ch : Channel) (s : State) : Upkeep s (endRearm ch s) := by
  refine Upkeep.trans ?_ (applyWaiting_routine ch _).upkeep
  exact .of_inert rfl rfl

theorem abandonLoad_upkeep (s : State) : Upkeep s (abandonLoad s) := by
  refine Upkeep.trans (t := { s with loader := none }) ?_ (raise_routine .loadAbandoned _).upkeep
  exact ⟨⟨rfl, .inr rfl, le_rfl, fun h => ⟨h.covers, h.most⟩, fun c => ⟨c.hits, c.events, c.notices, c.responses, c.inbound⟩,
    fun h => ⟨h.capacity, h.one, h.two, h.three⟩, .of_segments rfl⟩, rfl⟩

/-! ## The scheduler -/

/-- Work that shortens queues and leaves the Hit Queue. -/
theorem Upkeep.of_fewer {s t : State} (anchor : t.anchor = s.anchor) (loader : t.loader = s.loader) (hist : t.hist = s.hist)
    (segments : t.wave.segments = s.wave.segments) (hits : t.rq.hits = s.rq.hits) (shed : t.rq.shed = s.rq.shed)
    (events : t.rq.events.length ≤ s.rq.events.length) (notices : t.rq.notices.length ≤ s.rq.notices.length)
    (responses : t.rq.responses.length ≤ s.rq.responses.length) (tt : t.tt = s.tt) : Upkeep s t := by
  have inbound : t.link.inbound = s.link.inbound := congrArg Anchor.inbound anchor
  refine ⟨⟨anchor, .inl loader, responses, fun h => ⟨hist ▸ h.covers, hist ▸ h.most⟩,
    fun c => ⟨hits ▸ c.hits, events.trans c.events, notices.trans c.notices, responses.trans c.responses, inbound ▸ c.inbound⟩,
    fun h => ?_, .of_segments segments⟩, tt⟩
  refine ⟨hits ▸ h.capacity, ?_, ?_, ?_⟩ <;> rw [hits, shed]
  · exact h.one
  · exact h.two
  · exact h.three

/-- R161: an evaluation of the shed level, in a state whose Hit Queue has not grown and whose shed level has not moved. -/
theorem evalShed_upkeep {s u : State} (anchor : u.anchor = s.anchor) (loader : u.loader = s.loader) (hist : u.hist = s.hist)
    (hits : u.rq.hits.length ≤ s.rq.hits.length) (shed : u.rq.shed = s.rq.shed) (events : u.rq.events = s.rq.events)
    (notices : u.rq.notices = s.rq.notices) (responses : u.rq.responses = s.rq.responses) (tt : u.tt = s.tt)
    (owners : KeepsOwners s (evalShed u)) : Upkeep s (evalShed u) := by
  have inbound : u.link.inbound = s.link.inbound := congrArg Anchor.inbound anchor
  have evaluation := (evalShed_routine u).upkeep
  refine ⟨⟨evaluation.anchor.trans anchor, .inl (by rw [(evalShed_booked u).loader, loader]),
    by rw [(evalShed_booked u).responses, responses],
    fun h => evaluation.peak ⟨hist ▸ h.covers, hist ▸ h.most⟩,
    fun c => evaluation.capacity ⟨hits.trans c.hits, events ▸ c.events, notices ▸ c.notices, responses ▸ c.responses,
      inbound ▸ c.inbound⟩, fun h => ?_, owners⟩, evaluation.tt.trans tt⟩
  refine evalShed_follows u s.rq.hits.length (hits.trans (Nat.le_succ _)) (hits.trans h.capacity) ?_ ?_ ?_ <;> rw [shed]
  · exact h.one
  · exact h.two
  · exact h.three

theorem startHits_upkeep (s : State) : Upkeep s (startHits s) := by
  refine evalShed_upkeep rfl rfl rfl (by simp [startFrame]) rfl rfl rfl rfl rfl (KeepsOwners.trans ?_ (evalShed_keepsOwners _))
  exact .of_segments rfl

theorem scheduleWaveform_upkeep (s : State) : Upkeep s (scheduleWaveform s) := by
  unfold scheduleWaveform
  split
  · exact .refl s
  · split
    · next owner => exact evalShed_upkeep rfl rfl rfl le_rfl rfl rfl rfl rfl rfl (startPiece_keepsOwners owner)
    · exact .refl s

theorem scheduleInterval_upkeep (s : State) : Upkeep s (scheduleInterval s) := by
  unfold scheduleInterval
  split
  · exact .of_inert rfl rfl
  · exact scheduleWaveform_upkeep s

theorem scheduleHits_upkeep (s : State) : Upkeep s (scheduleHits s) := by
  unfold scheduleHits
  split
  · exact startHits_upkeep s
  · exact scheduleInterval_upkeep s

theorem scheduleEvents_upkeep (s : State) : Upkeep s (scheduleEvents s) := by
  unfold scheduleEvents
  split
  · next events =>
    exact .of_fewer rfl rfl rfl rfl rfl rfl (by simp [startFrame, events]) le_rfl le_rfl rfl
  · exact scheduleHits_upkeep s

theorem scheduleNotices_upkeep (s : State) : Upkeep s (scheduleNotices s) := by
  unfold scheduleNotices
  split
  · exact scheduleEvents_upkeep s
  · exact .of_fewer rfl rfl rfl rfl rfl rfl le_rfl (by simp [startFrame]) le_rfl rfl

theorem schedule_upkeep (s : State) : Upkeep s (schedule s) := by
  unfold schedule scheduleFrom
  split
  · split
    · next responses =>
      exact .of_fewer rfl rfl rfl rfl rfl rfl le_rfl le_rfl (by simp [startFrame, responses]) rfl
    · exact scheduleNotices_upkeep s
  · exact .refl s

theorem completeFrame_upkeep (s : State) : Upkeep s (completeFrame s) := by
  unfold completeFrame
  split
  · exact .of_inert rfl rfl
  · exact .refl s

theorem badFrame_upkeep (s : State) : Upkeep s (badFrame s) := by
  refine Upkeep.trans ?_ (raise_routine .frameError _).upkeep
  exact .of_inert rfl rfl

end Sys2Proof.Machine
end

section
/-! R1 to R5, R28, R34, R36, R37, R53, R56: acquisition state, synthesizer, detectors and contexts through every change of the
acquisition state. -/

namespace Sys2Proof.Machine

/-! ## The agreement in parts -/

/-- R1 to R5: the clock is STOPPED exactly in OFF, LOCKING exactly in STARTING's first substep, and never LOST. -/
structure ClockAgrees (a : Acq) (y : Synth) : Prop where
  stopped : a = .off ↔ y = .stopped
  locking : (∃ t, a = .starting t .locking) ↔ ∃ e, y = .locking e
  held : y ≠ .lost

theorem modesAgree_iff {s : State} : s.ModesAgree ↔ ClockAgrees s.acq s.synth ∧ s.StandsIn s.acq := by
  constructor
  · intro h
    refine ⟨⟨h.stopped, h.locking, h.held⟩, fun ch => ?_, fun rests => h.free (fun e => rests (.inl e)) fun t e => rests (.inr ⟨t, e⟩)⟩
    cases a : s.acq with
    | armed => trivial
    | draining t => exact h.draining ⟨t, a⟩ ch
    | off | starting _ _ | standby | learning _ _ => exact h.blocked (by simp [a]) (by simp [a]) ch
  · rintro ⟨clock, stands⟩
    refine ⟨clock.stopped, clock.locking, clock.held, fun notArmed notDraining ch => ?_, fun ⟨t, draining⟩ ch => ?_,
      fun notArmed notDraining => stands.contexts fun h => h.elim notArmed fun ⟨t, e⟩ => notDraining t e⟩
    · have allowed := stands.machines ch
      cases a : s.acq with
      | armed => exact absurd a notArmed
      | draining t => exact absurd a (notDraining t)
      | off | starting _ _ | standby | learning _ _ => rw [a] at allowed; exact allowed
    · have allowed := stands.machines ch
      rw [draining] at allowed
      exact allowed

/-- Acquisition state, synthesizer, detectors and contexts go on agreeing. -/
def Agrees (s t : State) : Prop := s.ModesAgree → t.ModesAgree

theorem Agrees.trans {s t u : State} (h : Agrees s t) (k : Agrees t u) : Agrees s u := k ∘ h

theorem Agrees.refl (s : State) : Agrees s s := id

theorem Routine.agrees {s t : State} (h : Routine s t) : Agrees s t := fun agree => by
  obtain ⟨clock, stands⟩ := modesAgree_iff.mp agree
  refine modesAgree_iff.mpr ?_
  rw [h.acq, h.synth]
  exact ⟨clock, h.standing stands⟩

/-- Work that leaves acquisition state, synthesizer, detectors and contexts. -/
theorem Agrees.of_same {s t : State} (acq : t.acq = s.acq) (synth : t.synth = s.synth) (dets : t.dets = s.dets)
    (contexts : t.asm.contexts = s.asm.contexts) : Agrees s t := fun h =>
  ⟨by rw [acq, synth]; exact h.stopped, by rw [acq, synth]; exact h.locking, by rw [synth]; exact h.held,
    by rw [acq, dets]; exact h.blocked, by rw [acq, dets]; exact h.draining, by rw [acq, contexts]; exact h.free⟩

/-- Detectors at rest and FREE contexts: what every acquisition state allows. -/
structure State.Rests (s : State) : Prop where
  machines : ∀ ch : Channel, s.dets[ch].machine = .blocked
  contexts : ∀ k : Fin 4, s.asm.contexts[k] = none

theorem State.Rests.stands {s : State} (h : s.Rests) (a : Acq) : s.StandsIn a :=
  ⟨fun ch => by rw [h.machines ch]; exact a.allows_blocked, fun _ => h.contexts⟩

/-- In OFF, STARTING, STANDBY and LEARNING the part is at rest. -/
theorem State.StandsIn.rests {s : State} {a : Acq} (h : s.StandsIn a) (rest : ¬ a.holdsHits) : s.Rests := by
  refine ⟨fun ch => ?_, h.contexts rest⟩
  have allowed := h.machines ch
  cases a with
  | armed => exact absurd (.inl rfl) rest
  | draining t => exact absurd (.inr ⟨t, rfl⟩) rest
  | off | starting _ _ | standby | learning _ _ => exact allowed

theorem State.ModesAgree.rests {s : State} (h : s.ModesAgree) (rest : ¬ s.acq.holdsHits) : s.Rests :=
  (modesAgree_iff.mp h).2.rests rest

/-- A part at rest agrees in every acquisition state that its synthesizer fits. -/
theorem State.Rests.agree {s t : State} (h : s.Rests) (clock : ClockAgrees t.acq t.synth)
    (machines : ∀ ch : Channel, t.dets[ch].machine = s.dets[ch].machine) (contexts : t.asm.contexts = s.asm.contexts) :
    t.ModesAgree :=
  modesAgree_iff.mpr ⟨clock, State.Rests.stands ⟨fun ch => (machines ch).trans (h.machines ch), by rw [contexts]; exact h.contexts⟩ _⟩

theorem clockAgrees_off : ClockAgrees .off .stopped := ⟨by simp, by simp, by simp⟩

/-- While the clock is LOCKED the part is not OFF and not in STARTING's first substep. -/
theorem clockAgrees_locked {a : Acq} (notOff : a ≠ .off) (notLocking : ∀ t, a ≠ .starting t .locking) : ClockAgrees a .locked :=
  ⟨by simp [notOff], by simp [notLocking], by simp⟩

theorem ClockAgrees.locked_of {a : Acq} {y : Synth} (h : ClockAgrees a y) (notOff : a ≠ .off)
    (notLocking : ∀ t, a ≠ .starting t .locking) : y = .locked := by
  cases y with
  | locked => rfl
  | stopped => exact absurd (h.stopped.mpr rfl) notOff
  | locking e =>
    obtain ⟨t, starting⟩ := h.locking.mpr ⟨e, rfl⟩
    exact absurd starting (notLocking t)
  | lost => exact absurd rfl h.held

/-- Both acquisition states are past the first substep of STARTING: the clock stays LOCKED. -/
theorem ClockAgrees.move {a b : Acq} {y : Synth} (h : ClockAgrees a y) (notOff : a ≠ .off) (notLocking : ∀ t, a ≠ .starting t .locking)
    (notOff' : b ≠ .off) (notLocking' : ∀ t, b ≠ .starting t .locking) : ClockAgrees b y := by
  rw [h.locked_of notOff notLocking]
  exact clockAgrees_locked notOff' notLocking'

/-! ## Entries to OFF -/

/-- R55: an entry to OFF leaves a detector BLOCKED. -/
theorem detectorOff_blocked (reason : OffReason) (ch : Channel) (s : State) (off : s.acq = .off) :
    (detectorOff reason ch s).dets[ch].machine = .blocked := by
  have stays : ∀ {u t : State}, Routine u t → u.acq = .off → u.dets[ch].machine = .blocked → t.dets[ch].machine = .blocked := by
    intro u t routine off blocked
    have allowed := routine.machines ch
    rw [off] at allowed
    exact allowed blocked
  unfold detectorOff
  cases isOpen : s.dets[ch].machine with
  | inHit h =>
    refine stays (closeHit_after isOpen _ _) off ?_
    rw [State.modDet_dets, upd_same, show reason.cause.rearms s.acq = false by cases reason <;> rfl]
    rfl
  | idle | rearmHold | blocked =>
    have closed : ∀ h, s.dets[ch].machine ≠ .inHit h := by rw [isOpen]; exact fun _ => DetState.noConfusion
    refine stays (blockDetector_after closed) off ?_
    rw [State.modDet_dets, upd_same, Detector.block_closed closed]

/-- R28, step 2: every detector is BLOCKED. -/
theorem detectorsOff_blocked (reason : OffReason) (s : State) (off : s.acq = .off) (ch : Channel) :
    (channels.foldl (fun s ch => detectorOff reason ch s) s).dets[ch].machine = .blocked := by
  have general : ∀ (chs : List Channel) (u : State), u.acq = .off → u.dets[ch].machine = .blocked ∨ ch ∈ chs →
      (chs.foldl (fun s ch => detectorOff reason ch s) u).dets[ch].machine = .blocked := by
    intro chs
    induction chs with
    | nil => exact fun u _ h => h.elim id fun mem => absurd mem List.not_mem_nil
    | cons c cs ih =>
      intro u off h
      have routine := detectorOff_routine reason c u
      refine ih _ (routine.acq.trans off) ?_
      by_cases same : c = ch
      · exact .inl (same ▸ detectorOff_blocked reason c u off)
      · refine h.imp (fun blocked => ?_) fun mem => (List.mem_cons.mp mem).resolve_left (Ne.symm same)
        have allowed := routine.machines ch
        rw [off] at allowed
        exact allowed blocked
  exact general channels s off (.inr (mem_channels ch))

theorem foldl_asm {α : Type} {turn : State → α → State} (h : ∀ s a, (turn s a).asm = s.asm) (l : List α) (s : State) :
    (l.foldl turn s).asm = s.asm := by
  induction l generalizing s with
  | nil => rfl
  | cons a l ih => exact (ih _).trans (h s a)

theorem offerStandalone_asm (t : EventTag) (c : ClosedHit) (s : State) : (offerStandalone t c s).asm = s.asm := by
  rw [(offerStandalone_fated t c s).eq]

theorem dissolveOpen_asm (m : Member) (s : State) : (dissolveOpen m s).asm = s.asm := by
  unfold dissolveOpen
  split
  · rfl
  · rw [(segmentLeavesContext_booked _ _ _).asm]; rfl

/-- R104, R115: a dissolution leaves its context FREE and the others alone, and counts it where a member was left. -/
theorem dissolve_asm (k : Fin 4) (members : List Member) (s : State) :
    (dissolve k members s).asm = { s.asm with
      contexts := upd s.asm.contexts k fun _ => none
      eventsDissolved := if members = [] then s.asm.eventsDissolved else s.asm.eventsDissolved + 1 } := by
  unfold dissolve
  simp only
  rw [foldl_asm (fun u m => dissolveOpen_asm m u), foldl_asm fun u c => offerStandalone_asm _ (orphan c) u]
  cases members <;> rfl

/-- R115: one context of an entry to OFF dissolves, if it is in use. -/
def dissolveTurn (s : State) (k : Fin 4) : State :=
  match s.asm.contexts[k] with
  | some c => dissolve k c.members s
  | none => s

theorem dissolveTurn_contexts (s : State) (j k : Fin 4) :
    (dissolveTurn s j).asm.contexts[k] = if j = k then none else s.asm.contexts[k] := by
  unfold dissolveTurn
  split
  · rw [dissolve_asm]
    exact upd_get _ _ _ _
  · next free =>
    split
    · next same => exact same ▸ free
    · rfl

theorem mem_contextNumbers (k : Fin 4) : k ∈ contextNumbers := by revert k; decide

/-- R115: every context in use dissolves. -/
theorem dissolveAll_free (s : State) (k : Fin 4) : (dissolveAll s).asm.contexts[k] = none := by
  have general : ∀ (ks : List (Fin 4)) (u : State), u.asm.contexts[k] = none ∨ k ∈ ks →
      (ks.foldl dissolveTurn u).asm.contexts[k] = none := by
    intro ks
    induction ks with
    | nil => exact fun u h => h.elim id fun mem => absurd mem List.not_mem_nil
    | cons j js ih =>
      intro u h
      refine ih _ ?_
      rw [dissolveTurn_contexts]
      by_cases same : j = k
      · exact .inl (if_pos same)
      · rw [if_neg same]
        exact h.imp id fun mem => (List.mem_cons.mp mem).resolve_left (Ne.symm same)
  exact general contextNumbers s (.inr (mem_contextNumbers k))

/-- R28: the part at the end of an entry to OFF; with the reason "off" every context is FREE before. -/
theorem enterOff_rests (reason : OffReason) (s : State) (rests : reason = .off → s.Rests) : (enterOff reason s).Rests := by
  have leaves : (leaveForOff s).acq = .off ∧ (s.Rests → (leaveForOff s).Rests) := by
    unfold leaveForOff
    split
    · exact ⟨rfl, fun h => ⟨fun ch => by simp only [tabulate_get]; exact h.machines ch, h.contexts⟩⟩
    all_goals exact ⟨rfl, fun h => ⟨h.machines, h.contexts⟩⟩
  obtain ⟨off, left⟩ := leaves
  have blocked := detectorsOff_blocked reason (leaveForOff s) off
  have routine : Routine (leaveForOff s) (channels.foldl (fun s ch => detectorOff reason ch s) (leaveForOff s)) :=
    Routine.foldl (fun u ch => detectorOff_routine reason ch u) channels _
  unfold enterOff
  simp only
  generalize channels.foldl (fun s ch => detectorOff reason ch s) (leaveForOff s) = u at blocked routine ⊢
  have standing := dissolves_routine reason u
  have offNow : u.acq = .off := routine.acq.trans off
  refine ⟨fun ch => ?_, fun k => ?_⟩
  · have allowed := standing.machines ch
    rw [offNow] at allowed
    exact allowed (blocked ch)
  · cases reason with
    | off =>
      have stands := routine.standing ((left (rests rfl)).stands _)
      rw [off] at stands
      exact stands.contexts (by simp [Acq.holdsHits]) k
    | abort => exact dissolveAll_free u k
    | clock => exact dissolveAll_free u k

theorem enterOff_clock (reason : OffReason) (s : State) : (enterOff reason s).acq = .off ∧ (enterOff reason s).synth = .stopped := by
  have off : (leaveForOff s).acq = .off := by unfold leaveForOff; split <;> rfl
  have routine : Routine (leaveForOff s) (channels.foldl (fun s ch => detectorOff reason ch s) (leaveForOff s)) :=
    Routine.foldl (fun u ch => detectorOff_routine reason ch u) channels _
  unfold enterOff
  simp only
  generalize channels.foldl (fun s ch => detectorOff reason ch s) (leaveForOff s) = u at routine ⊢
  exact ⟨(dissolves_routine reason u).acq.trans (routine.acq.trans off), rfl⟩

theorem enterOff_agree (reason : OffReason) (s : State) (rests : reason = .off → s.Rests) : (enterOff reason s).ModesAgree := by
  obtain ⟨acq, synth⟩ := enterOff_clock reason s
  refine modesAgree_iff.mpr ?_
  rw [acq, synth]
  exact ⟨clockAgrees_off, (enterOff_rests reason s rests).stands .off⟩

/-- R30: a failed start. -/
theorem failStart_agree (cause : StartFailure) {s : State} (rests : s.Rests) : (failStart cause s).ModesAgree := by
  have left := enterOff_agree .off s fun _ => rests
  unfold failStart
  generalize enterOff .off s = u at left ⊢
  exact (setFactor_routine _ _ _ _).agrees (Agrees.of_same (s := u) rfl rfl rfl rfl left)

/-! ## Starting -/

/-- R29: a start from OFF. -/
theorem enterStarting_agrees (target : StartTarget) {s : State} (off : s.acq = .off) : Agrees s (enterStarting target s) := fun h => by
  have rests := h.rests (by simp [off, Acq.holdsHits])
  have stopped := h.stopped.mp off
  unfold enterStarting requestStart
  simp only [stopped]
  exact rests.agree ⟨by simp, ⟨fun _ => ⟨_, rfl⟩, fun _ => ⟨target, rfl⟩⟩, by simp⟩ (fun _ => rfl) rfl

/-- R2: a lock achieved in LOCKING. -/
theorem achieveLock_agrees {s : State} {e : Nat} (locking : s.synth = .locking e) : Agrees s (achieveLock s) := fun h => by
  obtain ⟨t, starting⟩ := h.locking.mpr ⟨e, locking⟩
  have rests := h.rests (by simp [starting, Acq.holdsHits])
  refine rests.agree ?_ (fun _ => rfl) rfl
  show ClockAgrees s.acq.locked .locked
  rw [starting]
  exact clockAgrees_locked (by simp [Acq.locked]) (by simp [Acq.locked])

/-- R2, R30: the lock timer's expiry in LOCKING. -/
theorem failLock_agrees {s : State} {e : Nat} (locking : s.synth = .locking e) : Agrees s (failLock s) := fun h => by
  obtain ⟨t, starting⟩ := h.locking.mpr ⟨e, locking⟩
  have rests := h.rests (by simp [starting, Acq.holdsHits])
  have booked := raise_booked .lockFail { s with synth := .stopped }
  refine failStart_agree .lock ⟨fun ch => ?_, fun k => ?_⟩
  · rw [booked.dets]; exact rests.machines ch
  · rw [booked.asm]; exact rests.contexts k

theorem loseLock_agrees (s : State) : Agrees s (loseLock s) := fun _ => enterOff_agree .clock _ fun h => nomatch h

/-- In STARTING the part is at rest. -/
theorem State.ModesAgree.starting_rests {s : State} {t : StartTarget} {u : Substep} (h : s.ModesAgree) (acq : s.acq = .starting t u) :
    s.Rests := h.rests (by simp [acq, Acq.holdsHits])

/-- R31: the end of the SYNCING substep. -/
theorem endSyncing_agrees {s : State} {t : StartTarget} {n : Nat} (acq : s.acq = .starting t (.syncing n)) :
    Agrees s (endSyncing t s) := fun h => by
  have rests := h.starting_rests acq
  have clock := (modesAgree_iff.mp h).1
  unfold endSyncing
  split
  · refine rests.agree ?_ (fun _ => rfl) rfl
    exact clock.move (by simp [acq]) (by simp [acq]) (by simp) (by simp)
  · exact failStart_agree _ rests

theorem endSyncingSubstep_agrees {s : State} (due : s.syncingDue = true) : Agrees s (endSyncingSubstep s) := by
  unfold State.syncingDue at due
  unfold endSyncingSubstep
  split at due
  · next acq => simp only [acq]; exact endSyncing_agrees acq
  all_goals cases due

/-- R31, R37, R126: an entry to STANDBY from a state of rest past LOCKING. -/
theorem enterStandby_agree {s : State} (rests : s.Rests) (locked : s.synth = .locked) : (enterStandby s).ModesAgree := by
  refine (reachState_routine _).agrees ?_
  rw [startTimer_eq]
  refine rests.agree ?_ (fun _ => rfl) rfl
  show ClockAgrees .standby s.synth
  rw [locked]
  exact clockAgrees_locked (by simp) (by simp)

theorem enterLearning_agree {s : State} (rests : s.Rests) (locked : s.synth = .locked) : (enterLearning s).ModesAgree := by
  refine rests.agree ?_ (fun ch => by simp only [enterLearning, tabulate_get]; rfl) rfl
  show ClockAgrees (.learning _ _) s.synth
  rw [locked]
  exact clockAgrees_locked (by simp) (by simp)

theorem endSettlingSubstep_agrees {s : State} (due : s.settlingDue = true) : Agrees s (endSettlingSubstep s) := fun h => by
  unfold State.settlingDue at due
  split at due
  · next t n length acq =>
    have rests := h.starting_rests acq
    have locked := (modesAgree_iff.mp h).1.locked_of (by simp [acq]) (by simp [acq])
    unfold endSettlingSubstep
    rw [acq]
    cases t with
    | standby => exact enterStandby_agree rests locked
    | armed =>
      show (enterLearning (startTimer s)).ModesAgree
      rw [startTimer_eq]
      exact enterLearning_agree ⟨rests.machines, rests.contexts⟩ locked
  all_goals cases due

/-! ## Learning and arming -/

/-- R32, R34: the end of a learning period. -/
theorem endLearning_agrees {s : State} (due : s.learningDue = true) : Agrees s (endLearning s) := fun h => by
  unfold State.learningDue at due
  split at due
  · next acq =>
    have learned : Routine s (channels.foldl (fun s ch => learnChannel ch s) s) :=
      Routine.foldl (fun u ch => learnChannel_routine ch u) channels s
    have synth := learned.synth.trans ((modesAgree_iff.mp h).1.locked_of (by simp [acq]) (by simp [acq]))
    unfold endLearning
    generalize channels.foldl (fun s ch => learnChannel ch s) s = u at learned synth ⊢
    refine (reachState_routine _).agrees (modesAgree_iff.mpr ⟨?_, fun _ => trivial, fun rest => absurd (.inl rfl) rest⟩)
    show ClockAgrees .armed u.synth
    rw [synth]
    exact clockAgrees_locked (by simp) (by simp)
  all_goals cases due

/-! ## Draining -/

theorem drained_iff {s : State} : s.drained = true ↔ s.NothingOpen := by
  unfold State.drained
  simp only [Bool.and_eq_true, List.all_eq_true, Option.isNone_iff_eq_none]
  exact ⟨fun ⟨hits, contexts⟩ => ⟨fun ch => hits ch (mem_channels ch), fun k => contexts k (mem_contextNumbers k)⟩,
    fun h => ⟨fun ch _ => h.hits ch, fun k _ => h.contexts k⟩⟩

/-- R37: a drained part in DRAINING is at rest. -/
theorem State.ModesAgree.drained_rests {s : State} {t : DrainTarget} (h : s.ModesAgree) (acq : s.acq = .draining t)
    (drained : s.NothingOpen) : s.Rests := by
  refine ⟨fun ch => (h.draining ⟨t, acq⟩ ch).resolve_right fun ⟨hit, isOpen⟩ => ?_, drained.contexts⟩
  have closed := drained.hits ch
  rw [Detector.open?, isOpen] at closed
  cases closed

theorem reachDrainTarget_agree (target : DrainTarget) {s : State} (rests : s.Rests) (locked : s.synth = .locked) :
    (reachDrainTarget target s).ModesAgree := by
  cases target with
  | standby => exact enterStandby_agree rests locked
  | off => exact (reachState_routine _).agrees (enterOff_agree .off s fun _ => rests)

theorem checkDrain_agrees (s : State) : Agrees s (checkDrain s) := fun h => by
  unfold checkDrain
  split
  · next t acq =>
    split
    · next drained =>
      exact reachDrainTarget_agree t (h.drained_rests acq (drained_iff.mp drained))
        ((modesAgree_iff.mp h).1.locked_of (by simp [acq]) (by simp [acq]))
    · exact h
  all_goals exact h

/-- R36: the part at entry to DRAINING from ARMED. -/
theorem stoodDown_agrees (target : DrainTarget) {s : State} (armed : s.acq = .armed) : Agrees s (s.stoodDown target) := fun h => by
  have clock := (modesAgree_iff.mp h).1
  refine modesAgree_iff.mpr ⟨clock.move (b := .draining target) (by simp [armed]) (by simp [armed]) (by simp) (by simp),
    fun ch => ?_, fun rest => absurd (.inr ⟨target, rfl⟩) rest⟩
  show (s.stoodDown target).dets[ch].machine = .blocked ∨ ∃ hit, (s.stoodDown target).dets[ch].machine = .inHit hit
  simp only [State.stoodDown, tabulate_get]
  unfold Detector.stoodDown
  split
  · next isOpen => exact .inr ⟨_, isOpen⟩
  all_goals exact .inl rfl

theorem enterDraining_agrees (target : DrainTarget) {s : State} (armed : s.acq = .armed) : Agrees s (enterDraining target s) := by
  rw [enterDraining_eq]
  exact (stoodDown_agrees target armed).trans (checkDrain_agrees _)

/-! ## Rows and expiries -/

theorem Acq.countTick_allows (a : Acq) (m : DetState) : a.countTick.allows m ↔ a.allows m := by
  unfold Acq.countTick
  split <;> exact Iff.rfl

theorem Acq.countTick_holdsHits (a : Acq) : a.countTick.holdsHits ↔ a.holdsHits := by
  unfold Acq.countTick
  split <;> simp [Acq.holdsHits]

theorem ClockAgrees.countTick {a : Acq} {y : Synth} (h : ClockAgrees a y) : ClockAgrees a.countTick y := by
  unfold Acq.countTick
  split
  · exact h.move (by simp) (by simp) (by simp) (by simp)
  · exact h.move (by simp) (by simp) (by simp) (by simp)
  · exact h.move (by simp) (by simp) (by simp) (by simp)
  all_goals exact h

theorem endOfTick_agrees (s : State) : Agrees s (endOfTick s) := fun h => by
  obtain ⟨clock, stands⟩ := modesAgree_iff.mp h
  exact modesAgree_iff.mpr ⟨clock.countTick, fun ch => (s.acq.countTick_allows _).mpr (stands.machines ch),
    fun rest => stands.contexts (mt s.acq.countTick_holdsHits.mpr rest)⟩

theorem rowTaken_agrees (words : Vector LaneWord 16) (s : State) : Agrees s (rowTaken words s) :=
  ((takeRow_routine words channels (s, [])).trans (releaseOpenings_routine _ _)).agrees.trans (endOfTick_agrees _)

theorem tickRow_agrees (words : Vector LaneWord 16) (s : State) : Agrees s (tickRow words s) := by
  have taken := (rowTaken_agrees words s).trans (checkDrain_agrees _)
  unfold tickRow
  generalize checkDrain (rowTaken words s) = u at taken ⊢
  exact taken.trans (.of_same rfl rfl rfl rfl)

theorem lastTick_agrees (s : State) : Agrees s (lastTick s) := fun h => by
  obtain ⟨clock, stands⟩ := modesAgree_iff.mp h
  refine modesAgree_iff.mpr ⟨clock, fun ch => ?_, stands.contexts⟩
  have lowered : (lastTick s).dets[ch].machine = s.dets[ch].machine := by
    simp only [lastTick, advanceTime, tabulate_get]; rfl
  rw [lowered]
  exact stands.machines ch

theorem expireDueWindows_agrees (s : State) : Agrees s (expireDueWindows s) := by
  have tested := (expireWindows_routine s).agrees.trans (checkDrain_agrees _)
  unfold expireDueWindows drainAtTickStart
  simp only
  split
  · exact tested
  · exact tested.trans (lastTick_agrees _)

/-- R51: only ARMED has rearm holds, and it allows IDLE. -/
theorem endRearm_agrees {s : State} {ch : Channel} (due : rearmDue ch s = true) : Agrees s (endRearm ch s) := by
  have hold : s.dets[ch].machine = .rearmHold := by
    have := (Bool.and_eq_true _ _ ▸ due : _ ∧ _).1
    exact eq_of_beq this
  have idle : Routine s (s.modDet ch fun d => { d with machine := .idle }) := routine_modDet fun allowed => by
    rw [hold] at allowed
    revert allowed
    cases s.acq <;> simp [Acq.allows]
  exact (idle.trans (applyWaiting_routine ch _)).agrees

theorem abandonLoad_agrees (s : State) : Agrees s (abandonLoad s) := by
  refine Agrees.trans (t := { s with loader := none }) ?_ (raise_routine .loadAbandoned _).agrees
  exact .of_same rfl rfl rfl rfl

theorem takePressureWord_agrees (word : PressureWord) (s : State) : Agrees s (takePressureWord word s) := by
  unfold takePressureWord goodPressureWord
  split
  · split <;> exact .of_same rfl rfl rfl rfl
  · exact .of_same rfl rfl rfl rfl

theorem endSlot_agrees (s : State) : Agrees s (endSlot s) := by
  have begun (pl : PressureLane) : Agrees s { s with pl := pl } := .of_same rfl rfl rfl rfl
  unfold endSlot
  simp only
  generalize (if s.pl.slotFilled then s.pl.missingRun else min (s.pl.missingRun + 1) staleRun) = run
  split
  · exact (begun _).trans (raise_routine _ _).agrees
  · exact begun _

/-- The scheduler moves queues, the store and the transmitter only. -/
theorem schedule_agrees (s : State) : Agrees s (schedule s) := by
  have evaluated {u : State} (h : Agrees s u) : Agrees s (evalShed u) := h.trans (evalShed_routine u).agrees
  unfold schedule scheduleFrom scheduleNotices scheduleEvents scheduleHits scheduleInterval scheduleWaveform startHits startPiece
  repeat' split
  all_goals first | exact .of_same rfl rfl rfl rfl | exact evaluated (.of_same rfl rfl rfl rfl)

theorem badFrame_agrees (s : State) : Agrees s (badFrame s) := by
  refine Agrees.trans ?_ (raise_routine .frameError _).agrees
  exact .of_same rfl rfl rfl rfl

end Sys2Proof.Machine
end

section
/-! What a request that is taken keeps: the invariants of every step, the test lock, and, but for ZERO_TIME and SOFT_RESET, Test Time. -/

namespace Sys2Proof.Machine

/-! ## The relations -/

/-- The invariants that every step keeps. -/
structure Sound (s t : State) : Prop where
  capacity : s.WithinCapacity → t.WithinCapacity
  shed : s.ShedFollows → t.ShedFollows
  crcs : s.CrcsCurrent → t.CrcsCurrent
  owners : KeepsOwners s t
  peak : s.PeakCovers → t.PeakCovers
  agrees : Agrees s t

/-- R190, R192: a locked test keeps what the lock freezes, the digest stays or the lock goes off, and no load of a lockable table is in
progress while the lock is on. -/
def LockKept (s t : State) : Prop :=
  s.LockHolds → t.LockHolds ∧ (s.lock.isSome = true → Frozen s t ∧ (t.lock = s.lock ∨ t.lock = none))

/-- What the owner of a request makes of the state: it keeps the invariants and the test lock, and gives no response by itself. -/
structure Owned (s t : State) : Prop extends Sound s t where
  lock : LockKept s t
  responses : t.rq.responses.length ≤ s.rq.responses.length

/-- An owner that also leaves Test Time. -/
structure Timely (s t : State) : Prop extends Owned s t where
  tt : t.tt = s.tt

theorem Sound.refl (s : State) : Sound s s := ⟨id, id, id, id, id, id⟩

theorem Sound.trans {s t u : State} (h : Sound s t) (k : Sound t u) : Sound s u :=
  ⟨k.capacity ∘ h.capacity, k.shed ∘ h.shed, k.crcs ∘ h.crcs, k.owners ∘ h.owners, k.peak ∘ h.peak, k.agrees ∘ h.agrees⟩

theorem Frozen.of_tables {s t : State} (tables : t.tables = s.tables) (crcs : t.crcs = s.crcs) : Frozen s t := by
  constructor <;> simp only [tables, crcs]

theorem loadingLockable_of_none {t : State} (h : t.loader = none) : t.loadingLockable = false := by
  unfold State.loadingLockable
  rw [h]

theorem loadingLockable_congr {s t : State} (h : t.loader = s.loader) : t.loadingLockable = s.loadingLockable := by
  unfold State.loadingLockable
  rw [h]

theorem Keeps.tables {s t : State} (h : Keeps s t) : t.tables = s.tables := congrArg Anchor.tables h.anchor
theorem Keeps.crcs {s t : State} (h : Keeps s t) : t.crcs = s.crcs := congrArg Anchor.crcs h.anchor
theorem Keeps.lock {s t : State} (h : Keeps s t) : t.lock = s.lock := congrArg Anchor.lock h.anchor

theorem Keeps.lockKept {s t : State} (h : Keeps s t) : LockKept s t := fun holds => by
  refine ⟨fun locked => ?_, fun _ => ⟨.of_tables h.tables h.crcs, .inl h.lock⟩⟩
  rcases h.loader with same | idle
  · rw [loadingLockable_congr same]
    exact holds (h.lock ▸ locked)
  · exact loadingLockable_of_none idle

theorem Keeps.sound {s t : State} (h : Keeps s t) (agrees : Agrees s t) : Sound s t :=
  ⟨h.capacity, h.shed, fun current => by unfold State.CrcsCurrent; rw [h.crcs, h.tables]; exact current, h.owners, h.peak, agrees⟩

theorem Keeps.owned {s t : State} (h : Keeps s t) (agrees : Agrees s t) : Owned s t := ⟨h.sound agrees, h.lockKept, h.responses⟩

theorem Upkeep.timely {s t : State} (h : Upkeep s t) (agrees : Agrees s t) : Timely s t := ⟨h.toKeeps.owned agrees, h.tt⟩

theorem Routine.timely {s t : State} (h : Routine s t) : Timely s t := h.upkeep.timely h.agrees

theorem Timely.refl (s : State) : Timely s s := (Routine.refl s).timely

theorem Routine.sound {s t : State} (h : Routine s t) : Sound s t := h.keeps.sound h.agrees

/-! ## The Acquisition Controller -/

/-- R26: an entry to OFF from a state of rest. -/
theorem reachOff_timely {s : State} (rest : ¬ s.acq.holdsHits) : Timely s (reachState (enterOff .off s)) :=
  ((enterOff_upkeep .off s).trans (reachState_routine _).upkeep).timely fun h =>
    (reachState_routine _).agrees (enterOff_agree .off s fun _ => h.rests rest)

theorem goOff_timely (s : State) : Timely s (goOff s).state := by
  unfold goOff
  split <;> rw [Answer.controlled_state]
  · exact .refl s
  · next acq => exact reachOff_timely (by simp [acq, Acq.holdsHits])
  · next acq => exact reachOff_timely (by simp [acq, Acq.holdsHits])
  · next acq => exact reachOff_timely (by simp [acq, Acq.holdsHits])
  · next acq => exact (enterDraining_upkeep .off s).timely (enterDraining_agrees .off acq)
  · next acq =>
    refine Upkeep.timely (.of_inert rfl rfl) fun h => ?_
    obtain ⟨clock, stands⟩ := modesAgree_iff.mp h
    rw [acq] at clock stands
    exact modesAgree_iff.mpr ⟨clock.move (by simp) (by simp) (by simp) (by simp), stands.machines,
      fun rest => absurd (.inr ⟨.off, rfl⟩) rest⟩
  · exact .refl s

/-- R32: LEARNING from STANDBY. -/
theorem enterLearning_agrees {s : State} (standby : s.acq = .standby) : Agrees s (enterLearning s) := fun h =>
  enterLearning_agree (h.rests (by simp [standby, Acq.holdsHits]))
    ((modesAgree_iff.mp h).1.locked_of (by simp [standby]) (by simp [standby]))

theorem goStandby_timely (s : State) : Timely s (goStandby s).state := by
  unfold goStandby
  split <;> rw [Answer.controlled_state]
  · next acq => exact (enterStarting_upkeep .standby s).timely (enterStarting_agrees .standby acq)
  · exact .refl s
  · exact .refl s
  · exact .refl s
  · exact .refl s
  · next acq => exact (enterDraining_upkeep .standby s).timely (enterDraining_agrees .standby acq)
  · exact .refl s
  · exact .refl s

theorem goArmed_timely (s : State) : Timely s (goArmed s).state := by
  unfold goArmed
  split
  · split <;> rw [Answer.controlled_state]
    · next acq => exact (enterStarting_upkeep .armed s).timely (enterStarting_agrees .armed acq)
    · exact .refl s
    · exact .refl s
    · next acq => exact (enterLearning_upkeep s).timely (enterLearning_agrees acq)
    · exact .refl s
    · exact .refl s
    · exact .refl s
  · exact .refl s

theorem abort_timely (s : State) : Timely s (abort s).state := by
  unfold abort
  rw [Answer.controlled_state]
  exact ((enterOff_upkeep .abort s).trans (raise_routine .aborted _).upkeep).timely fun _ =>
    (raise_routine .aborted _).agrees (enterOff_agree .abort s fun h => nomatch h)

theorem zeroTime_owned (s : State) : Owned s (zeroTime s).state := by
  unfold zeroTime
  split
  · exact Keeps.owned (.of_inert rfl) (.of_same rfl rfl rfl rfl)
  · exact (Timely.refl s).toOwned

/-! ## Load history and conditions -/

theorem setPhase_timely (p : Phase) (s : State) : Timely s (setPhase p s).state := by
  unfold setPhase LoadHistory.setPhase
  split
  · exact .refl s
  · split <;> exact Upkeep.timely (.of_inert rfl rfl) (.of_same rfl rfl rfl rfl)

/-- R121: the peak becomes the pressure in force. -/
theorem resetLoadHistory_timely (s : State) : Timely s (resetLoadHistory s).state := by
  have upkeep : Upkeep s (resetLoadHistory s).state :=
    ⟨⟨rfl, .inl rfl, le_rfl, fun h => ⟨le_rfl, h.covers.trans h.most⟩,
      fun c => ⟨c.hits, c.events, c.notices, c.responses, c.inbound⟩, fun h => ⟨h.capacity, h.one, h.two, h.three⟩,
      .of_segments rfl⟩, rfl⟩
  exact upkeep.timely (.of_same rfl rfl rfl rfl)

theorem clearConditions_timely (m : FactorBits) (s : State) : Timely s (clearConditions m s) :=
  Upkeep.timely (.of_inert rfl rfl) (.of_same rfl rfl rfl rfl)

theorem setEnables_timely (g : Group) (on : Bool) (m : FactorBits) (s : State) : Timely s (setEnables g on m s) :=
  Upkeep.timely (.of_inert rfl rfl) (.of_same rfl rfl rfl rfl)

/-! ## The Table Loader -/

/-- R183: a table replaced, with its CRC computed again, leaves the other four and their CRCs. -/
theorem putTables_crcs (t : TableId) (first : Nat) (es : List Entry) {s : State} (current : s.CrcsCurrent) :
    (putTables t (s.tables.putEntries t first es) s).CrcsCurrent := by
  have others : ∀ (es : List Entry) (first : Nat) (old : Tables), ∀ id : TableId, id ≠ t →
      (old.putEntries t first es).canonical id = old.canonical id := by
    intro es
    induction es with
    | nil => exact fun _ _ _ _ => rfl
    | cons e es ih =>
      intro first old id other
      refine (ih (first + 1) (old.putEntry t first e) id other).trans ?_
      unfold Tables.putEntry
      split <;> first | rfl | skip
      · split <;> cases id <;> first | rfl | exact absurd rfl other
      all_goals cases id <;> first | rfl | exact absurd rfl other
  unfold State.CrcsCurrent at current ⊢
  have keeps : ∀ id : TableId, id ≠ t → (s.tables.putEntries t first es).crcOf id = s.tables.crcOf id := fun id other =>
    congrArg crc32 (others es first s.tables id other)
  show s.crcs.put t ((s.tables.putEntries t first es).crcOf t) = (s.tables.putEntries t first es).crcs
  rw [current]
  unfold Tables.crcs TableCrcs.put
  cases t <;> simp only [keeps, ne_eq, reduceCtorEq, not_false_eq_true]

/-- Which tables a load replaces. -/
theorem putEntries_zone (es : List Entry) (first : Nat) (old : Tables) :
    let new := old.putEntries .zone first es
    new.setup = old.setup ∧ new.channel = old.channel ∧ new.pair = old.pair ∧ new.filter = old.filter := by
  induction es generalizing first old with
  | nil => exact ⟨rfl, rfl, rfl, rfl⟩
  | cons e es ih =>
    obtain ⟨setup, channel, pair, filter⟩ := ih (first + 1) (old.putEntry .zone first e)
    refine ⟨setup.trans ?_, channel.trans ?_, pair.trans ?_, filter.trans ?_⟩ <;> cases e <;> rfl

theorem deferEntry_routine (ch : Channel) (e : ChannelEntry) (s : State) : Routine s (deferEntry ch e s) := by
  unfold deferEntry
  split
  · exact applyEntry_routine ch e s
  · exact applyEntry_routine ch e s
  · exact routine_modDet_of_machine rfl
  · exact routine_modDet_of_machine rfl

theorem handEntry_routine (ch : Channel) (s : State) : Routine s (handEntry ch s) := by
  unfold handEntry
  simp only
  split
  · exact deferEntry_routine ch _ s
  all_goals exact applyEntry_routine ch _ s

theorem retime_upkeep (s : State) : Upkeep s (retime s) := by
  unfold retime
  split
  · exact startTimer_upkeep s
  · exact .of_inert rfl rfl

theorem retime_agrees (s : State) : Agrees s (retime s) := by
  unfold retime
  rw [startTimer_eq]
  split
  · exact .of_same rfl rfl rfl rfl
  · exact .of_same rfl rfl rfl rfl

theorem handTable_upkeep (t : TableId) (first count : Nat) (old : Tables) (s : State) : Upkeep s (handTable t first count old s) := by
  unfold handTable
  split
  · exact (Routine.foldl (fun u ch => handEntry_routine ch u) _ s).upkeep
  · split
    · exact retime_upkeep s
    · exact .refl s
  all_goals exact .refl s

theorem handTable_agrees (t : TableId) (first count : Nat) (old : Tables) (s : State) : Agrees s (handTable t first count old s) := by
  unfold handTable
  split
  · exact (Routine.foldl (fun u ch => handEntry_routine ch u) _ s).agrees
  · split
    · exact retime_agrees s
    · exact .refl s
  all_goals exact .refl s

/-- R189: the tables as a commit leaves them, before their consumers are handed the new entries. -/
def State.committed (l : Load) (s : State) : State :=
  putTables l.table (s.tables.putEntries l.table l.first l.staged) { s with loader := none }

theorem committed_sound (l : Load) (s : State) : Sound s (s.committed l) :=
  ⟨fun c => ⟨c.hits, c.events, c.notices, c.responses, c.inbound⟩, fun h => ⟨h.capacity, h.one, h.two, h.three⟩,
    fun current => putTables_crcs l.table l.first l.staged (s := { s with loader := none }) current, .of_segments rfl,
    fun h => ⟨h.covers, h.most⟩, .of_same rfl rfl rfl rfl⟩

/-- What follows the commit. -/
theorem commitLoad_after (l : Load) (s : State) :
    Upkeep (s.committed l) (commitLoad l (s.tables.putEntries l.table l.first l.staged) s) ∧
      Agrees (s.committed l) (commitLoad l (s.tables.putEntries l.table l.first l.staged) s) :=
  ⟨(handTable_upkeep _ _ _ s.tables _).trans (raise_routine .loadDone _).upkeep,
    (handTable_agrees _ _ _ s.tables _).trans (raise_routine .loadDone _).agrees⟩

theorem TableId.eq_zone_of_not_lockable {t : TableId} (h : t.lockable = false) : t = .zone := by
  cases t with
  | zone => rfl
  | setup | channel | pair | filter => cases h

/-- R190, R192: while the lock is on, a load that is committed is one of ZONE. -/
theorem commitLoad_lockKept {l : Load} {s : State} (loading : s.loader = some l) :
    LockKept s (commitLoad l (s.tables.putEntries l.table l.first l.staged) s) := fun holds => by
  obtain ⟨upkeep, -⟩ := commitLoad_after l s
  have idle : (commitLoad l (s.tables.putEntries l.table l.first l.staged) s).loader = none := by
    rcases upkeep.loader with same | none
    · exact same.trans rfl
    · exact none
  refine ⟨fun _ => loadingLockable_of_none idle, fun locked => ⟨?_, .inl (upkeep.lock.trans rfl)⟩⟩
  have notLockable := holds locked
  unfold State.loadingLockable at notLockable
  rw [loading] at notLockable
  have zone : l.table = .zone := TableId.eq_zone_of_not_lockable notLockable
  have tables : (commitLoad l (s.tables.putEntries l.table l.first l.staged) s).tables
      = s.tables.putEntries .zone l.first l.staged := by rw [upkeep.tables, ← zone]; rfl
  have crcs : (commitLoad l (s.tables.putEntries l.table l.first l.staged) s).crcs
      = s.crcs.put .zone ((s.tables.putEntries .zone l.first l.staged).crcOf .zone) := by rw [upkeep.crcs, ← zone]; rfl
  obtain ⟨setup, channel, pair, filter⟩ := putEntries_zone l.staged l.first s.tables
  refine ⟨?_, ?_, ?_, ?_, ?_, ?_, ?_, ?_⟩
  · rw [tables]; exact setup
  · rw [tables]; exact channel
  · rw [tables]; exact pair
  · rw [tables]; exact filter
  all_goals rw [crcs]; rfl

theorem commitLoad_timely {l : Load} {s : State} (loading : s.loader = some l) :
    Timely s (commitLoad l (s.tables.putEntries l.table l.first l.staged) s) := by
  obtain ⟨upkeep, agrees⟩ := commitLoad_after l s
  exact ⟨⟨(committed_sound l s).trans (upkeep.toKeeps.sound agrees), commitLoad_lockKept loading, upkeep.responses⟩, upkeep.tt⟩

theorem abandonLoad_timely (s : State) : Timely s (abandonLoad s) := (abandonLoad_upkeep s).timely (abandonLoad_agrees s)

theorem endLoad_timely {l : Load} {s : State} (loading : s.loader = some l) : Timely s (endLoad l s).state := by
  unfold endLoad
  simp only
  split
  · split
    · exact abandonLoad_timely s
    · exact commitLoad_timely loading
  · exact abandonLoad_timely s

/-- The loader holds another load, of a table that the lock lets be loaded. -/
theorem loading_timely {s : State} {l : Load} (lockable : s.lock.isSome = true → s.LockHolds → l.table.lockable = false) :
    Timely s { s with loader := some l } :=
  ⟨⟨⟨fun c => ⟨c.hits, c.events, c.notices, c.responses, c.inbound⟩, fun h => ⟨h.capacity, h.one, h.two, h.three⟩, id,
    .of_segments rfl, fun h => ⟨h.covers, h.most⟩, .of_same rfl rfl rfl rfl⟩,
    fun holds => ⟨fun locked => lockable locked holds, fun _ => ⟨.of_tables rfl rfl, .inl rfl⟩⟩, le_rfl⟩, rfl⟩

theorem Timely.trans {s t u : State} (h : Timely s t) (k : Timely t u) (lock : LockKept s u) : Timely s u :=
  ⟨⟨h.toSound.trans k.toSound, lock, k.responses.trans h.responses⟩, k.tt.trans h.tt⟩

/-- Two pieces of a request's work of which the first leaves tables and lock. -/
theorem LockKept.after {s t u : State} (h : LockKept s t) (same : t.tables = s.tables ∧ t.crcs = s.crcs ∧ t.lock = s.lock)
    (k : LockKept t u) : LockKept s u := fun holds => by
  obtain ⟨tables, crcs, lock⟩ := same
  obtain ⟨holdsThen, locked⟩ := k (h holds).1
  refine ⟨holdsThen, fun on => ?_⟩
  obtain ⟨frozen, digest⟩ := locked (lock ▸ on)
  refine ⟨⟨?_, ?_, ?_, ?_, ?_, ?_, ?_, ?_⟩, lock ▸ digest⟩
  · rw [frozen.setup, tables]
  · rw [frozen.channel, tables]
  · rw [frozen.pair, tables]
  · rw [frozen.filter, tables]
  · rw [frozen.setupCrc, crcs]
  · rw [frozen.channelCrc, crcs]
  · rw [frozen.pairCrc, crcs]
  · rw [frozen.filterCrc, crcs]

theorem stageEntries_timely {l : Load} {s : State} (loading : s.loader = some l) (es : List Entry) :
    Timely s (stageEntries l es s).state := by
  have staged : Timely s { s with loader := some (l.stage es s.now) } := loading_timely fun locked holds => by
    have := holds locked
    unfold State.loadingLockable at this
    rw [loading] at this
    exact this
  unfold stageEntries
  simp only
  split
  · exact staged
  · have ended := endLoad_timely (l := l.stage es s.now) (s := { s with loader := some (l.stage es s.now) }) rfl
    exact staged.trans ended (staged.lock.after ⟨rfl, rfl, rfl⟩ ended.lock)

theorem loadData_timely (t : TableId) (count : Nat) (entries : List Byte) (s : State) :
    Timely s (loadData t count entries s).state := by
  unfold loadData
  split
  · exact .refl s
  · next l loading =>
    split
    · exact abandonLoad_timely s
    · split
      · exact abandonLoad_timely s
      · exact stageEntries_timely loading _

theorem loadBegin_timely (t : TableId) (first count : Nat) (s : State) : Timely s (loadBegin t first count s).state := by
  unfold loadBegin
  split
  · exact .refl s
  · split
    · exact .refl s
    · split
      · exact .refl s
      · split
        · exact .refl s
        · next allowed =>
          split
          · refine loading_timely fun locked _ => ?_
            simpa [locked] using allowed
          · exact .refl s

theorem loadAbort_timely (s : State) : Timely s (loadAbort s).state := by
  unfold loadAbort
  split
  · exact abandonLoad_timely s
  · exact .refl s

theorem readTable_timely (t : TableId) (first count : Nat) (s : State) : Timely s (readTable t first count s).state := by
  unfold readTable
  split <;> exact .refl s

/-! ## The test lock -/

/-- R190, R191: the lock changes, and TABLE.LOCK_CHANGED is set. -/
theorem lockChanged_timely {s : State} {lock : Option Counter} (holds : lock.isSome = true → s.loadingLockable = false)
    (change : s.lock = none ∨ lock = none) : Timely s (raise .lockChanged { s with lock := lock }) := by
  have upkeep := (raise_routine .lockChanged { s with lock := lock }).upkeep
  have agrees := (raise_routine .lockChanged { s with lock := lock }).agrees
  have sound : Sound s { s with lock := lock } :=
    ⟨fun c => ⟨c.hits, c.events, c.notices, c.responses, c.inbound⟩, fun h => ⟨h.capacity, h.one, h.two, h.three⟩, id,
      .of_segments rfl, fun h => ⟨h.covers, h.most⟩, .of_same rfl rfl rfl rfl⟩
  refine ⟨⟨sound.trans (upkeep.toKeeps.sound agrees), fun _ => ⟨fun locked => ?_, fun locked => ⟨?_, ?_⟩⟩, upkeep.responses⟩, upkeep.tt⟩
  · rw [upkeep.lock] at locked
    rcases upkeep.loader with same | idle
    · rw [loadingLockable_congr (s := s) same]; exact holds locked
    · exact loadingLockable_of_none idle
  · exact .of_tables upkeep.tables upkeep.crcs
  · rcases change with off | off
    · rw [off] at locked; cases locked
    · exact .inr (upkeep.lock.trans off)

theorem lockTest_timely (s : State) : Timely s (lockTest s).state := by
  unfold lockTest
  split
  · exact .refl s
  · next off =>
    split
    · exact .refl s
    · next idle => exact lockChanged_timely (fun _ => by simpa using idle) (.inl off)

theorem unlockTest_timely (s : State) : Timely s (unlockTest s).state := by
  unfold unlockTest
  split
  · exact .refl s
  · split
    · exact lockChanged_timely (fun h => nomatch h) (.inr rfl)
    · exact .refl s

/-! ## Resets -/

theorem State.resetOwnedBlocks : State.reset.wave.ownedBlocks = [] := by decide +kernel

/-- What a reset leaves meets the invariants: empty queues, no pressure, no owned block, and every detector BLOCKED. -/
theorem reset_rests {s : State} (machines : ∀ ch : Channel, s.dets[ch].machine = .blocked)
    (contexts : s.asm.contexts = Vector.replicate 4 none) : s.Rests :=
  ⟨machines, fun k => by rw [contexts]; exact Vector.getElem_replicate ..⟩

theorem softReset_rests (s : State) : (softReset s).Rests :=
  reset_rests (fun ch => by simp only [softReset, tabulate_get]; rfl) rfl

/-- R178: soft reset keeps the tables, their CRCs and the lock. -/
theorem softReset_owned (s : State) : Owned s (softReset s) := by
  have pressures : (softReset s).PeakCovers := ⟨le_rfl, Nat.zero_le _⟩
  have blocks : (softReset s).BlocksOwnedOnce :=
    ⟨(State.resetOwnedBlocks ▸ List.nodup_nil : State.reset.wave.ownedBlocks.Nodup), fun b hb => by
      have owned : b ∈ State.reset.wave.ownedBlocks := hb
      rw [State.resetOwnedBlocks] at owned
      cases owned⟩
  have agree : (softReset s).ModesAgree := modesAgree_iff.mpr ⟨clockAgrees_off, (softReset_rests s).stands .off⟩
  have empty : (softReset s).ShedFollows := ⟨Nat.zero_le _, (nomatch ·), (nomatch ·), (nomatch ·)⟩
  exact ⟨⟨fun _ => ⟨Nat.zero_le _, Nat.zero_le _, Nat.zero_le _, Nat.zero_le _, Nat.zero_le _⟩, fun _ => empty, id, fun _ => blocks,
    fun _ => pressures, fun _ => agree⟩,
    fun _ => ⟨fun _ => rfl, fun _ => ⟨.of_tables rfl rfl, .inl rfl⟩⟩, Nat.zero_le _⟩

/-! ## Judgement -/

theorem judgeEmpty_owned {f : State → Answer} {args : List Byte} {s : State} (h : Owned s (f s).state) :
    Owned s (judgeEmpty f args s).state := by
  cases args with
  | nil => exact h
  | cons b bs => exact (Timely.refl s).toOwned

theorem judgeEmpty_timely {f : State → Answer} {args : List Byte} {s : State} (h : Timely s (f s).state) :
    Timely s (judgeEmpty f args s).state := by
  cases args with
  | nil => exact h
  | cons b bs => exact .refl s

theorem judgeGo_timely (args : List Byte) (s : State) : Timely s (judgeGo args s).state := by
  unfold judgeGo
  split
  · split
    · exact goOff_timely s
    · exact goStandby_timely s
    · exact goArmed_timely s
    · exact .refl s
  · exact .refl s

theorem judgeAbort_timely (args : List Byte) (s : State) : Timely s (judgeAbort args s).state := by
  cases args with
  | nil => exact abort_timely s
  | cons b bs => exact .refl s

theorem judgeTable_timely {f : TableId → Nat → Nat → State → Answer} (args : List Byte) {s : State}
    (h : ∀ t first count, Timely s (f t first count s).state) : Timely s (judgeTable f args s).state := by
  unfold judgeTable
  split
  · split
    · exact h _ _ _
    · exact .refl s
  · exact .refl s

theorem judgeLoadData_timely (args : List Byte) (s : State) : Timely s (judgeLoadData args s).state := by
  unfold judgeLoadData
  split
  · split
    · exact .refl s
    · split
      · exact .refl s
      · split
        · exact loadData_timely _ _ _ s
        · exact .refl s
  all_goals exact .refl s

theorem judgeStatus_timely (args : List Byte) (s : State) : Timely s (judgeStatus args s).state := by
  unfold judgeStatus statusRead
  split
  · split <;> exact .refl s
  · exact .refl s

theorem judgeClear_timely (args : List Byte) (s : State) : Timely s (judgeClear args s).state := by
  unfold judgeClear
  split
  · split
    · exact clearConditions_timely _ s
    · exact .refl s
  · exact .refl s

theorem judgeEnables_timely (args : List Byte) (s : State) : Timely s (judgeEnables args s).state := by
  unfold judgeEnables rangeEnables
  split
  · split
    · split
      · exact .refl s
      · split
        · exact .refl s
        · split
          · exact setEnables_timely _ _ _ s
          · exact .refl s
    · exact .refl s
  all_goals exact .refl s

theorem judgePhase_timely (args : List Byte) (s : State) : Timely s (judgePhase args s).state := by
  unfold judgePhase
  split
  · split
    · exact setPhase_timely _ s
    · exact .refl s
  · exact .refl s

/-- R7, R178: of all requests only ZERO_TIME and SOFT_RESET move Test Time. -/
theorem judge_timely (r : Request) (s : State) (notZero : r.kind ≠ 0x04) (notReset : r.kind ≠ 0x10) : Timely s (judge r s).state := by
  unfold judge
  split
  · exact judgeEmpty_timely (.refl s)
  · exact judgeGo_timely _ s
  · exact judgeAbort_timely _ s
  · next zero => exact absurd (BitVec.eq_of_toNat_eq zero) notZero
  · exact judgeTable_timely _ fun t first count => loadBegin_timely t first count s
  · exact judgeLoadData_timely _ s
  · exact judgeEmpty_timely (loadAbort_timely s)
  · exact judgeTable_timely _ fun t first count => readTable_timely t first count s
  · exact judgeEmpty_timely (lockTest_timely s)
  · exact judgeEmpty_timely (unlockTest_timely s)
  · exact judgeStatus_timely _ s
  · exact judgeClear_timely _ s
  · exact judgeEnables_timely _ s
  · exact judgePhase_timely _ s
  · exact judgeEmpty_timely (resetLoadHistory_timely s)
  · next reset => exact absurd (BitVec.eq_of_toNat_eq reset) notReset
  · exact .refl s

theorem judge_owned (r : Request) (s : State) : Owned s (judge r s).state := by
  by_cases zero : r.kind = 0x04
  · have judged : judge r s = judgeEmpty zeroTime r.args s := by unfold judge; rw [zero]; rfl
    rw [judged]
    exact judgeEmpty_owned (zeroTime_owned s)
  · by_cases reset : r.kind = 0x10
    · have judged : judge r s = judgeEmpty (fun s => Answer.plain (softReset s) .ok) r.args s := by unfold judge; rw [reset]; rfl
      rw [judged]
      exact judgeEmpty_owned (softReset_owned s)
    · exact (judge_timely r s zero reset).toOwned

/-! ## The interpreter -/

theorem countTaken_upkeep (s : State) : Upkeep s (countTaken s) := .of_inert rfl rfl

theorem countTaken_agrees (s : State) : Agrees s (countTaken s) := .of_same rfl rfl rfl rfl

theorem countTaken_timely (s : State) : Timely s (countTaken s) := (countTaken_upkeep s).timely (countTaken_agrees s)

theorem judged_owned (r : Request) (s : State) : Owned s (judge r (countTaken s)).state := by
  have counted := countTaken_timely s
  have judged := judge_owned r (countTaken s)
  exact ⟨counted.toSound.trans judged.toSound, counted.lock.after ⟨rfl, rfl, rfl⟩ judged.lock, judged.responses⟩

/-- R169: a response more, where the Response Queue has room. -/
theorem respond_sound (r : Request) {a : Answer} (room : a.state.rq.responses.length < responseCapacity) :
    Sound a.state (respond r a) :=
  ⟨fun c => ⟨c.hits, c.events, c.notices, by simpa [respond] using room, c.inbound⟩, fun h => ⟨h.capacity, h.one, h.two, h.three⟩,
    id, .of_segments rfl, fun h => ⟨h.covers, h.most⟩, .of_same rfl rfl rfl rfl⟩

theorem takeRequest_sound (r : Request) {s : State} (room : s.rq.responses.length < responseCapacity) :
    Sound s (takeRequest r s) := by
  have owned := judged_owned r s
  exact owned.toSound.trans (respond_sound r (owned.responses.trans_lt room))

theorem schedule_sound (s : State) : Sound s (schedule s) := (schedule_upkeep s).toKeeps.sound (schedule_agrees s)

/-- Fewer requests wait. -/
theorem inbound_sound {s : State} {rs : List Request} (fewer : rs.length ≤ s.link.inbound.length) :
    Sound s { s with link := { s.link with inbound := rs } } :=
  ⟨fun c => ⟨c.hits, c.events, c.notices, c.responses, fewer.trans c.inbound⟩, fun h => ⟨h.capacity, h.one, h.two, h.three⟩, id,
    .of_segments rfl, fun h => ⟨h.covers, h.most⟩, .of_same rfl rfl rfl rfl⟩

theorem pump_sound (n : Nat) (s : State) : Sound s (pump n s) := by
  induction n generalizing s with
  | zero => exact schedule_sound s
  | succ n ih =>
    unfold pump
    simp only
    refine (schedule_sound s).trans ?_
    generalize schedule s = u
    split
    · exact .refl u
    · next r rest waiting =>
      split
      · next room =>
        have taken : Sound u { u with link := { u.link with inbound := rest } } := inbound_sound (by simp [waiting])
        exact (taken.trans (takeRequest_sound r room)).trans (ih _)
      · exact .refl u

theorem finish_sound (s : State) : Sound s (finish s) := pump_sound _ s

/-- R168: a good request is queued, or dropped at a full queue. -/
theorem offerRequest_sound (r : Request) (s : State) : Sound s (offerRequest r s) := by
  unfold offerRequest
  split
  · next room =>
    exact ⟨fun c => ⟨c.hits, c.events, c.notices, c.responses, by simpa using room⟩, fun h => ⟨h.capacity, h.one, h.two, h.three⟩,
      id, .of_segments rfl, fun h => ⟨h.covers, h.most⟩, .of_same rfl rfl rfl rfl⟩
  · refine Sound.trans ?_ (raise_routine .requestDropped _).sound
    exact Keeps.sound (.of_inert rfl) (.of_same rfl rfl rfl rfl)

theorem submit_sound (r : Request) (s : State) : Sound s (submit r s) := (offerRequest_sound r s).trans (finish_sound _)

theorem endFrame_sound (wire : List Byte) (s : State) : Sound s (endFrame wire s) := by
  unfold endFrame
  split
  · exact offerRequest_sound _ s
  · exact (badFrame_upkeep s).toKeeps.sound (badFrame_agrees s)

end Sys2Proof.Machine
end

section
/-! The invariants that every step keeps (O11 to O18): what the expiries, the ticks, the link clock and the commands do to them. -/

namespace Sys2Proof.Machine

/-! ## Expiries -/

/-- What an expiry, or another event that is no request and no tick, does. -/
structure Expiry (s t : State) : Prop where
  upkeep : Upkeep s t
  agrees : Agrees s t

theorem Routine.expiry {s t : State} (h : Routine s t) : Expiry s t := ⟨h.upkeep, h.agrees⟩

theorem Expiry.sound {s t : State} (h : Expiry s t) : Sound s t := h.upkeep.toKeeps.sound h.agrees

/-- With no request waiting, the end of an event is one call of the scheduler. -/
theorem finish_of_empty {s : State} (empty : s.link.inbound = []) : finish s = schedule s := by
  unfold finish
  rw [empty]
  rfl

theorem finish_keeps {s t : State} (h : Keeps s t) (empty : s.link.inbound = []) : Keeps s (finish t) := by
  rw [finish_of_empty (h.inbound.trans empty)]
  exact h.trans (schedule_upkeep t).toKeeps

theorem finish_upkeep {s t : State} (h : Upkeep s t) (empty : s.link.inbound = []) : Upkeep s (finish t) := by
  rw [finish_of_empty (h.inbound.trans empty)]
  exact h.trans (schedule_upkeep t)

theorem takeDue_sound {due : State → Bool} {effect : State → State} {s : State} (h : due s = true → Sound s (effect s)) :
    Sound s (takeDue due effect s) := by
  unfold takeDue
  split
  · next isDue => exact (h isDue).trans (finish_sound _)
  · exact .refl s

theorem takeDue_keeps {due : State → Bool} {effect : State → State} {s : State} (empty : s.link.inbound = [])
    (h : due s = true → Keeps s (effect s)) : Keeps s (takeDue due effect s) := by
  unfold takeDue
  split
  · next isDue => exact finish_keeps (h isDue) empty
  · exact .refl s

theorem takeDue_upkeep {due : State → Bool} {effect : State → State} {s : State} (empty : s.link.inbound = [])
    (h : due s = true → Upkeep s (effect s)) : Upkeep s (takeDue due effect s) := by
  unfold takeDue
  split
  · next isDue => exact finish_upkeep (h isDue) empty
  · exact .refl s

/-- Events one after another: they keep the invariants, and with no request waiting they are upkeep. -/
structure Passing (s t : State) : Prop where
  sound : Sound s t
  upkeep : s.link.inbound = [] → Upkeep s t

theorem Passing.refl (s : State) : Passing s s := ⟨.refl s, fun _ => .refl s⟩

theorem Passing.trans {s t u : State} (h : Passing s t) (k : Passing t u) : Passing s u :=
  ⟨h.sound.trans k.sound, fun empty => (h.upkeep empty).trans (k.upkeep ((h.upkeep empty).inbound.trans empty))⟩

theorem Expiry.passing {s t : State} (h : Expiry s t) : Passing s t := ⟨h.sound, fun _ => h.upkeep⟩

theorem Expiry.finished {s t : State} (h : Expiry s t) : Passing s (finish t) :=
  ⟨h.sound.trans (finish_sound t), finish_upkeep h.upkeep⟩

theorem takeDue_passing {due : State → Bool} {effect : State → State} {s : State} (h : due s = true → Expiry s (effect s)) :
    Passing s (takeDue due effect s) :=
  ⟨takeDue_sound fun isDue => (h isDue).sound, fun empty => takeDue_upkeep empty fun isDue => (h isDue).upkeep⟩

theorem takeEach_passing {due : Channel → State → Bool} {effect : Channel → State → State}
    (h : ∀ ch s, due ch s = true → Expiry s (effect ch s)) (s : State) : Passing s (takeEach due effect s) := by
  unfold takeEach
  generalize channels = chs
  induction chs generalizing s with
  | nil => exact .refl s
  | cons ch chs ih => exact (takeDue_passing (h ch s)).trans (ih _)

theorem failSync_expiry (ch : Channel) (s : State) : Expiry s (failSync ch s) := (failSync_routine ch s).expiry

theorem settleLane_expiry (ch : Channel) (s : State) : Expiry s (settleLane ch s) := (routine_modLane s ch _).expiry

theorem endRearm_expiry {ch : Channel} {s : State} (due : rearmDue ch s = true) : Expiry s (endRearm ch s) :=
  ⟨endRearm_upkeep ch s, endRearm_agrees due⟩

theorem expireInterval_expiry (s : State) : Expiry s (expireInterval s) := ⟨expireInterval_upkeep s, .of_same rfl rfl rfl rfl⟩

theorem endSlot_expiry (s : State) : Expiry s (endSlot s) := ⟨endSlot_upkeep s, endSlot_agrees s⟩

theorem endSyncingSubstep_expiry {s : State} (due : s.syncingDue = true) : Expiry s (endSyncingSubstep s) :=
  ⟨endSyncingSubstep_upkeep s, endSyncingSubstep_agrees due⟩

theorem endSettlingSubstep_expiry {s : State} (due : s.settlingDue = true) : Expiry s (endSettlingSubstep s) :=
  ⟨endSettlingSubstep_upkeep s, endSettlingSubstep_agrees due⟩

theorem endLearning_expiry {s : State} (due : s.learningDue = true) : Expiry s (endLearning s) :=
  ⟨endLearning_upkeep s, endLearning_agrees due⟩

theorem takeSyncTimeouts_passing (s : State) : Passing s (takeSyncTimeouts s) :=
  takeEach_passing (fun ch u _ => failSync_expiry ch u) s

theorem takeSyncingEnd_passing (s : State) : Passing s (takeSyncingEnd s) :=
  (takeSyncTimeouts_passing s).trans (takeDue_passing endSyncingSubstep_expiry)

/-- The expiries of a tick: those before the windows, then the windows. -/
theorem tickExpiries_spec (s : State) :
    ∃ u, Passing s u ∧ tickExpiries s = takeDue State.windowDue expireDueWindows u := by
  refine ⟨_, ?_, rfl⟩
  refine Passing.trans ?_ (takeDue_passing endLearning_expiry)
  refine Passing.trans ?_ (takeDue_passing endSettlingSubstep_expiry)
  refine Passing.trans ?_ (takeDue_passing endSyncingSubstep_expiry)
  refine Passing.trans ?_ (takeDue_passing fun _ => endSlot_expiry _)
  refine Passing.trans ?_ (takeDue_passing fun _ => expireInterval_expiry _)
  refine Passing.trans ?_ (takeEach_passing (fun _ _ => endRearm_expiry) _)
  exact (takeSyncTimeouts_passing s).trans (takeEach_passing (fun ch u _ => settleLane_expiry ch u) _)

theorem expireDueWindows_sound (s : State) : Sound s (expireDueWindows s) :=
  (expireDueWindows_keeps s).sound (expireDueWindows_agrees s)

theorem tickExpiries_sound (s : State) : Sound s (tickExpiries s) := by
  obtain ⟨u, passing, e⟩ := tickExpiries_spec s
  rw [e]
  exact passing.sound.trans (takeDue_sound fun _ => expireDueWindows_sound u)

theorem tickExpiries_keeps {s : State} (empty : s.link.inbound = []) : Keeps s (tickExpiries s) := by
  obtain ⟨u, passing, e⟩ := tickExpiries_spec s
  have upkeep := passing.upkeep empty
  rw [e]
  exact upkeep.toKeeps.trans (takeDue_keeps (upkeep.inbound.trans empty) fun _ => expireDueWindows_keeps u)

/-! ## The tick -/

theorem takeTick_sound (words : Vector LaneWord 16) (s : State) : Sound s (takeTick words s) := by
  have due := tickExpiries_sound s
  unfold takeTick
  split
  · simp only
    generalize tickExpiries s = u at due ⊢
    split
    · exact (due.trans ((tickRow_keeps words u).sound (tickRow_agrees words u))).trans (finish_sound _)
    · exact due
  · exact .refl s

theorem takeTick_keeps (words : Vector LaneWord 16) {s : State} (empty : s.link.inbound = []) : Keeps s (takeTick words s) := by
  have due := tickExpiries_keeps empty
  unfold takeTick
  split
  · simp only
    generalize tickExpiries s = u at due ⊢
    split
    · exact finish_keeps (due.trans (tickRow_keeps words u)) empty
    · exact due
  · exact .refl s

/-! ## The link clock -/

theorem setNow_expiry (t : Nat) (s : State) : Expiry s (setNow t s) := ⟨.of_inert rfl rfl, .of_same rfl rfl rfl rfl⟩

theorem timerEffect_expiry {timer : LinkTimer} {d d' : Nat} {s : State} (running : timer.deadline s = some d) :
    Expiry (setNow d' s) (timer.effect (setNow d' s)) := by
  cases timer with
  | lock =>
    have locking : ∃ e, s.synth = .locking e := by
      simp only [LinkTimer.deadline, State.lockDeadline] at running
      split at running
      · next e synth => exact ⟨e, synth⟩
      all_goals cases running
    obtain ⟨e, locking⟩ := locking
    exact ⟨failLock_upkeep _, failLock_agrees (e := e) locking⟩
  | load => exact ⟨abandonLoad_upkeep _, abandonLoad_agrees _⟩
  | flush => exact (Routine.refl _).expiry

theorem expireTimer_passing {timer : LinkTimer} {d : Nat} {s : State} (running : timer.deadline s = some d) :
    Passing s (expireTimer timer d s) :=
  (setNow_expiry d s).passing.trans (timerEffect_expiry running).finished

/-- The sooner of two timers is one of them. -/
theorem soonerTimer_eq {a b : Option (LinkTimer × Nat)} {x : LinkTimer × Nat} (h : soonerTimer a b = some x) :
    a = some x ∨ b = some x := by
  unfold soonerTimer at h
  split at h
  · split at h
    · exact .inr h
    · exact .inl h
  · exact .inl h
  · exact .inr h

/-- The timer that expires next runs. -/
theorem nextTimer_deadline {s : State} {timer : LinkTimer} {d : Nat} (h : s.nextTimer = some (timer, d)) :
    timer.deadline s = some d := by
  have runs : ∀ t : LinkTimer, t.running s = some (timer, d) → timer.deadline s = some d := by
    intro t found
    unfold LinkTimer.running at found
    obtain ⟨e, deadline, pair⟩ := Option.map_eq_some_iff.mp found
    cases pair
    exact deadline
  rcases soonerTimer_eq h with first | flush
  · exact (soonerTimer_eq first).elim (runs _) (runs _)
  · exact runs _ flush

theorem passLink_passing (n t : Nat) (s : State) : Passing s (passLink n t s) := by
  induction n generalizing s with
  | zero => exact (setNow_expiry t s).passing
  | succ n ih =>
    unfold passLink
    split
    · next timer d next =>
      split
      · exact (expireTimer_passing (nextTimer_deadline next)).trans (ih _)
      · exact (setNow_expiry t s).passing
    · exact (setNow_expiry t s).passing

theorem takeTimer_passing (timer : LinkTimer) (s : State) : Passing s (takeTimer timer s) := by
  unfold takeTimer
  split
  · exact .refl s
  · next d _ =>
    simp only
    split
    · next running => exact (passLink_passing passFuel d s).trans (expireTimer_passing running)
    · exact passLink_passing passFuel d s

theorem takeFlush_passing (s : State) : Passing s (takeFlush s) := by
  unfold takeFlush
  split
  · exact .refl s
  · next d _ => exact (passLink_passing passFuel d s).trans (Routine.refl _).expiry.finished

theorem idle_sound (s : State) : Sound s (idle s) := (passLink_passing passFuel _ s).sound

/-! ## Commands that are no request, no tick and no window expiry -/

/-- The commands of the link port, the clock and the expiries of counts but the window expiry. -/
def isEvent (i : Instr) : Bool :=
  match i with
  | .lockAchieved | .lockTimerExpiry | .lockLost | .rearmExpiry _ | .laneSyncTimeout _ | .laneSettleEnd _ | .syncingSubstepEnd
  | .settlingSubstepEnd | .learningEnd | .intervalExpiry | .pressureWord _ | .plSlotEnd | .flushExpiry | .readinessReport _
  | .frameSent | .loadIdleTimeout => true
  | .powerOnReset | .identify _ | .goStandby _ | .goArmed _ | .goOff _ | .abort _ | .zeroTime _ | .loadBegin _ _ _ _
  | .loadData _ _ _ _ | .loadAbort _ | .readTable _ _ _ _ | .lockTest _ | .unlockTest _ | .statusRead _ _
  | .clearConditions _ _ | .setEnables _ _ _ _ | .setPhase _ _ | .resetLoadHistory _ | .softReset _ | .downlinkFrameEnd _
  | .sampleRow _ | .windowExpiry => false

/-- A command is POWER_ON_RESET, a request, a frame, a row, a window expiry or one of the other events. -/
theorem command_kinds (i : Instr) :
    i = .powerOnReset ∨ (∃ r, requestOf i = some r) ∨ (∃ wire, i = .downlinkFrameEnd wire) ∨ (∃ words, i = .sampleRow words) ∨
      i = .windowExpiry ∨ isEvent i = true := by
  cases i <;> simp [requestOf, isEvent]

theorem exec_event {i : Instr} (event : isEvent i = true) {s t : State} (h : exec i s = .next t) : Passing s t := by
  cases i <;> simp only [isEvent, Bool.false_eq_true] at event
  case lockAchieved =>
    replace h : execLockAchieved s = .next t := h
    unfold execLockAchieved at h
    split at h
    · next locking =>
      obtain rfl := Host.Outcome.next.inj h
      exact Expiry.finished ⟨achieveLock_upkeep s, achieveLock_agrees locking⟩
    all_goals obtain rfl := Host.Outcome.next.inj h; exact .refl s
  case lockTimerExpiry => obtain rfl := Host.Outcome.next.inj h; exact takeTimer_passing .lock s
  case lockLost =>
    replace h : execLockLost s = .next t := h
    unfold execLockLost at h
    split at h
    · obtain rfl := Host.Outcome.next.inj h
      exact Expiry.finished ⟨loseLock_upkeep s, loseLock_agrees s⟩
    all_goals obtain rfl := Host.Outcome.next.inj h; exact .refl s
  case rearmExpiry ch => obtain rfl := Host.Outcome.next.inj h; exact takeDue_passing endRearm_expiry
  case laneSyncTimeout ch => obtain rfl := Host.Outcome.next.inj h; exact takeDue_passing fun _ => failSync_expiry ch s
  case laneSettleEnd ch => obtain rfl := Host.Outcome.next.inj h; exact takeDue_passing fun _ => settleLane_expiry ch s
  case syncingSubstepEnd =>
    obtain rfl := Host.Outcome.next.inj h
    split
    · exact takeSyncingEnd_passing s
    · exact .refl s
  case settlingSubstepEnd => obtain rfl := Host.Outcome.next.inj h; exact takeDue_passing endSettlingSubstep_expiry
  case learningEnd => obtain rfl := Host.Outcome.next.inj h; exact takeDue_passing endLearning_expiry
  case intervalExpiry => obtain rfl := Host.Outcome.next.inj h; exact takeDue_passing fun _ => expireInterval_expiry s
  case pressureWord word =>
    replace h : execPressureWord word s = .next t := h
    unfold execPressureWord at h
    split at h
    · obtain rfl := Host.Outcome.next.inj h
      exact Expiry.finished ⟨takePressureWord_upkeep word s, takePressureWord_agrees word s⟩
    · obtain rfl := Host.Outcome.next.inj h
      exact .refl s
  case plSlotEnd => obtain rfl := Host.Outcome.next.inj h; exact takeDue_passing fun _ => endSlot_expiry s
  case flushExpiry => obtain rfl := Host.Outcome.next.inj h; exact takeFlush_passing s
  case readinessReport ready =>
    obtain rfl := Host.Outcome.next.inj h
    exact Expiry.finished ⟨.of_inert rfl rfl, .of_same rfl rfl rfl rfl⟩
  case frameSent =>
    replace h : execFrameSent s = .next t := h
    unfold execFrameSent at h
    split at h
    · obtain rfl := Host.Outcome.next.inj h
      refine Expiry.finished ⟨completeFrame_upkeep s, ?_⟩
      unfold completeFrame
      split <;> exact .of_same rfl rfl rfl rfl
    · obtain rfl := Host.Outcome.next.inj h
      exact .refl s
  case loadIdleTimeout => obtain rfl := Host.Outcome.next.inj h; exact takeTimer_passing .load s

/-! ## Power-on reset -/

theorem State.reset_capacity : State.reset.WithinCapacity :=
  ⟨Nat.zero_le _, Nat.zero_le _, Nat.zero_le _, Nat.zero_le _, Nat.zero_le _⟩

theorem State.reset_shedFollows : State.reset.ShedFollows := ⟨Nat.zero_le _, (nomatch ·), (nomatch ·), (nomatch ·)⟩

theorem State.reset_blocksOwnedOnce : State.reset.BlocksOwnedOnce := by
  constructor <;> rw [State.resetOwnedBlocks]
  · exact List.nodup_nil
  · exact fun b hb => absurd hb List.not_mem_nil

theorem State.reset_peakCovers : State.reset.PeakCovers := ⟨le_rfl, Nat.zero_le _⟩

theorem State.reset_modesAgree : State.reset.ModesAgree :=
  modesAgree_iff.mpr ⟨clockAgrees_off,
    (reset_rests (fun ch => by simp only [State.reset, tabulate_get]; rfl) rfl : State.reset.Rests).stands .off⟩

theorem powerOnReset_sound (s : State) : Sound s { State.reset with pending := s.pending } :=
  ⟨fun _ => ⟨Nat.zero_le _, Nat.zero_le _, Nat.zero_le _, Nat.zero_le _, Nat.zero_le _⟩,
    fun _ => ⟨Nat.zero_le _, (nomatch ·), (nomatch ·), (nomatch ·)⟩, fun _ => rfl,
    fun _ => ⟨State.reset_blocksOwnedOnce.once, State.reset_blocksOwnedOnce.pool⟩, fun _ => ⟨le_rfl, Nat.zero_le _⟩,
    fun _ => Agrees.of_same (s := State.reset) rfl rfl rfl rfl State.reset_modesAgree⟩

/-! ## Every command, every step -/

/-- Every command keeps the invariants. -/
theorem exec_sound (i : Instr) {s t : State} (h : exec i s = .next t) : Sound s t := by
  rcases command_kinds i with rfl | ⟨r, requested⟩ | ⟨wire, rfl⟩ | ⟨words, rfl⟩ | rfl | event
  · obtain rfl := Host.Outcome.next.inj h; exact powerOnReset_sound s
  · rw [exec_request requested] at h
    obtain rfl := Host.Outcome.next.inj h
    exact submit_sound r s
  · obtain rfl := Host.Outcome.next.inj h; exact (endFrame_sound wire s).trans (finish_sound _)
  · obtain rfl := Host.Outcome.next.inj h; exact takeTick_sound words s
  · obtain rfl := Host.Outcome.next.inj h; exact takeDue_sound fun _ => expireDueWindows_sound s
  · exact (exec_event event h).sound

/-- The queue of waiting commands is no part of the invariants. -/
theorem pending_sound (s : State) (cs : List Instr) : Sound s { s with pending := cs } :=
  Expiry.sound ⟨.of_inert rfl rfl, .of_same rfl rfl rfl rfl⟩

/-- Every step keeps the invariants. -/
theorem step_sound {s t : State} (h : step s = .next t) : Sound s t := by
  rcases step_spec s with ⟨-, idling⟩ | ⟨c, rest, -, taking⟩
  · rw [idling] at h
    obtain rfl := Host.Outcome.next.inj h
    exact idle_sound s
  · rw [taking] at h
    exact (pending_sound s rest).trans (exec_sound c h)

/-- Settles O11: no event makes a queue longer than its capacity, because each offers to a queue only what has room there. -/
theorem queuesKeepCapacity : Obligations.QueuesKeepCapacity := fun _ _ h taken => (step_sound taken).capacity h

/-- Settles O12: an evaluation follows every change of the Hit Queue, which grows by one record at a time. -/
theorem shedLevelFollowsOccupancy : Obligations.ShedLevelFollowsOccupancy := fun _ _ h taken => (step_sound taken).shed h

/-- Settles O13: only a commit writes a table, and it computes that table's CRC again. -/
theorem tableCrcsStayCurrent : Obligations.TableCrcsStayCurrent := fun _ _ h taken => (step_sound taken).crcs h

/-- Settles O14: a capture takes free blocks only, and no other operation gives a descriptor a block. -/
theorem blocksHaveOneOwner : Obligations.BlocksHaveOneOwner := fun _ _ h taken => (step_sound taken).owners h

/-- Settles O16: a good word raises the peak to its pressure, and RESET_LOAD_HISTORY makes the peak the pressure in force. -/
theorem peakCoversPressure : Obligations.PeakCoversPressure := fun _ _ h taken => (step_sound taken).peak h

/-- Settles O17: every change of the acquisition state moves synthesizer, detectors and contexts with it. -/
theorem modesGoOnAgreeing : Obligations.ModesGoOnAgreeing := fun _ _ h taken => (step_sound taken).agrees h

/-! ## Requests with no other request waiting -/

/-- R192: more work that leaves tables, CRCs and lock, and begins no load. -/
theorem LockKept.then {s t u : State} (h : LockKept s t) (same : u.tables = t.tables ∧ u.crcs = t.crcs ∧ u.lock = t.lock)
    (loader : u.loader = t.loader ∨ u.loader = none) : LockKept s u := fun holds => by
  obtain ⟨tables, crcs, lock⟩ := same
  obtain ⟨holdsThen, locked⟩ := h holds
  refine ⟨fun on => ?_, fun on => ?_⟩
  · rcases loader with same | idle
    · rw [loadingLockable_congr same]
      exact holdsThen (lock ▸ on)
    · exact loadingLockable_of_none idle
  · obtain ⟨frozen, digest⟩ := locked on
    refine ⟨⟨?_, ?_, ?_, ?_, ?_, ?_, ?_, ?_⟩, lock ▸ digest⟩
    · rw [tables, frozen.setup]
    · rw [tables, frozen.channel]
    · rw [tables, frozen.pair]
    · rw [tables, frozen.filter]
    · rw [crcs, frozen.setupCrc]
    · rw [crcs, frozen.channelCrc]
    · rw [crcs, frozen.pairCrc]
    · rw [crcs, frozen.filterCrc]

/-- R169: a request that arrives at an empty inbound queue waits, or is taken after one call of the scheduler and before another. -/
theorem submit_empty {s : State} (r : Request) (empty : s.link.inbound = []) :
    ∃ u, Upkeep s u ∧
      (submit r s = { u with link := { u.link with inbound := [r] } } ∨ submit r s = schedule (takeRequest r u)) := by
  have called := schedule_upkeep { s with link := { s.link with inbound := [r] } }
  have waits : (schedule { s with link := { s.link with inbound := [r] } }).link.inbound = [r] := called.inbound
  unfold submit
  rw [offerRequest_empty empty]
  show ∃ u, Upkeep s u ∧ (pump 1 _ = _ ∨ pump 1 _ = _)
  unfold pump
  simp only [waits]
  generalize schedule { s with link := { s.link with inbound := [r] } } = v at called waits ⊢
  refine ⟨{ v with link := { v.link with inbound := [] } }, ?_, ?_⟩
  · refine ⟨⟨?_, called.loader, called.responses, fun h => ?_, fun c => ?_, fun h => ?_, fun h => ?_⟩, called.tt⟩
    · show Anchor.mk v.tables v.crcs v.lock [] = Anchor.mk s.tables s.crcs s.lock s.link.inbound
      rw [called.tables, called.crcs, called.lock, empty]
    · have peak := called.peak ⟨h.covers, h.most⟩
      exact ⟨peak.covers, peak.most⟩
    · have capacity := called.capacity ⟨c.hits, c.events, c.notices, c.responses, by simp [inboundCapacity]⟩
      exact ⟨capacity.hits, capacity.events, capacity.notices, capacity.responses, Nat.zero_le _⟩
    · have shed := called.shed ⟨h.capacity, h.one, h.two, h.three⟩
      exact ⟨shed.capacity, shed.one, shed.two, shed.three⟩
    · have owners := called.owners ⟨h.once, h.pool⟩
      exact ⟨owners.once, owners.pool⟩
  · split
    · exact .inr rfl
    · refine .inl ?_
      have link : v.link = { v.link with inbound := [r] } := by rw [← waits]
      show v = { v with link := { v.link with inbound := [r] } }
      rw [← link]

theorem submit_lockKept {s : State} (r : Request) (empty : s.link.inbound = []) : LockKept s (submit r s) := by
  obtain ⟨u, upkeep, waits | taken⟩ := submit_empty r empty
  · rw [waits]
    exact upkeep.lockKept.then ⟨rfl, rfl, rfl⟩ (.inl rfl)
  · have judged : LockKept u (takeRequest r u) := (judged_owned r u).lock.then ⟨rfl, rfl, rfl⟩ (.inl rfl)
    have called := schedule_upkeep (takeRequest r u)
    rw [taken]
    exact (upkeep.lockKept.after ⟨upkeep.tables, upkeep.crcs, upkeep.lock⟩ judged).then
      ⟨called.tables, called.crcs, called.lock⟩ called.loader

theorem submit_tt {s : State} {r : Request} (empty : s.link.inbound = []) (notZero : r.kind ≠ 0x04) (notReset : r.kind ≠ 0x10) :
    (submit r s).tt = s.tt := by
  obtain ⟨u, upkeep, waits | taken⟩ := submit_empty r empty
  · rw [waits]
    exact upkeep.tt
  · rw [taken, (schedule_upkeep _).tt]
    exact ((judge_timely r (countTaken u) notZero notReset).tt.trans (countTaken_upkeep u).tt).trans upkeep.tt

theorem endFrame_lockKept {s : State} (wire : List Byte) (empty : s.link.inbound = []) : LockKept s (finish (endFrame wire s)) := by
  unfold endFrame
  split
  · exact submit_lockKept _ empty
  · exact (finish_keeps (badFrame_upkeep s).toKeeps empty).lockKept

/-- Settles O15: only a request can write tables or lock, and with none waiting a step takes at most one. -/
theorem lockFreezesTables : Obligations.LockFreezesTables := by
  intro c s t holds empty notPowerOn h
  have kept : LockKept s t := by
    rcases command_kinds c with rfl | ⟨r, requested⟩ | ⟨wire, rfl⟩ | ⟨words, rfl⟩ | rfl | event
    · exact absurd rfl notPowerOn
    · rw [exec_request requested] at h
      obtain rfl := Host.Outcome.next.inj h
      exact submit_lockKept r empty
    · obtain rfl := Host.Outcome.next.inj h; exact endFrame_lockKept wire empty
    · obtain rfl := Host.Outcome.next.inj h; exact (takeTick_keeps words empty).lockKept
    · obtain rfl := Host.Outcome.next.inj h; exact (takeDue_keeps empty fun _ => expireDueWindows_keeps s).lockKept
    · exact ((exec_event event h).upkeep empty).lockKept
  exact kept holds

/-! ## Test Time -/

theorem schedule_clock (s : State) :
    (schedule s).acq = s.acq ∧ (schedule s).synth = s.synth ∧ (schedule s).rowTT = s.rowTT := by
  have evaluated {u : State} (h : u.acq = s.acq ∧ u.synth = s.synth ∧ u.rowTT = s.rowTT) :
      (evalShed u).acq = s.acq ∧ (evalShed u).synth = s.synth ∧ (evalShed u).rowTT = s.rowTT := by
    obtain ⟨acq, synth, rowTT⟩ := h
    have fixed := (evalShed_routine u).fixed
    exact ⟨(congrArg Fixed.acq fixed).trans acq, (congrArg Fixed.synth fixed).trans synth, (congrArg Fixed.rowTT fixed).trans rowTT⟩
  unfold schedule scheduleFrom scheduleNotices scheduleEvents scheduleHits scheduleInterval scheduleWaveform startHits startPiece
  repeat' split
  all_goals first | exact ⟨rfl, rfl, rfl⟩ | exact evaluated ⟨rfl, rfl, rfl⟩

theorem ticking_iff {s : State} : s.ticking = true ↔ s.synth = .locked := by simp [State.ticking]

theorem enterStandby_synth (s : State) : (enterStandby s).synth = s.synth := by
  unfold enterStandby
  rw [(reachState_routine _).synth, startTimer_eq]

/-- R3, R37: the drain test of a ticking part: the clock goes on, or a drain to OFF stops it. -/
theorem checkDrain_clock {s : State} (ticking : s.synth = .locked) :
    (checkDrain s).synth = .locked ∨ (s.acq = .draining .off ∧ (checkDrain s).acq = .off ∧ (checkDrain s).synth = .stopped) := by
  unfold checkDrain
  split
  · next target acq =>
    split
    · cases target with
      | standby => exact .inl ((enterStandby_synth s).trans ticking)
      | off =>
        obtain ⟨off, stopped⟩ := enterOff_clock .off s
        exact .inr ⟨acq, (reachState_routine _).acq.trans off, (reachState_routine _).synth.trans stopped⟩
    · exact .inl ticking
  all_goals exact .inl ticking

/-- R37, R99: the windows of a tick leave Test Time and the clock, or complete a drain to OFF and with it the tick. -/
theorem expireDueWindows_clock {s : State} (ticking : s.synth = .locked) :
    ((expireDueWindows s).tt = s.tt ∧ (expireDueWindows s).synth = .locked) ∨
      (s.acq = .draining .off ∧ (expireDueWindows s).acq = .off ∧ (expireDueWindows s).synth = .stopped ∧
        (expireDueWindows s).rowTT = s.tt ∧ (expireDueWindows s).tt = s.tt + 1) := by
  have expired := expireWindows_routine s
  have tested := checkDrain_clock (expired.synth.trans ticking)
  have tt := (expired.upkeep.trans (checkDrain_upkeep _)).tt
  rw [expired.acq] at tested
  unfold expireDueWindows drainAtTickStart
  simp only
  generalize checkDrain (expireWindows s) = u at tested tt ⊢
  rcases tested with locked | ⟨draining, off, stopped⟩
  · rw [if_pos (ticking_iff.mpr locked)]
    exact .inl ⟨tt, locked⟩
  · rw [if_neg (by simp [State.ticking, stopped])]
    exact .inr ⟨draining, off, stopped, tt, congrArg (· + 1) tt⟩

/-- R99: the window expiry as a command, or among the expiries of a tick. -/
theorem takeWindows_clock {s : State} (empty : s.link.inbound = []) :
    ((takeDue State.windowDue expireDueWindows s).tt = s.tt) ∨
      (s.acq = .draining .off ∧ s.synth = .locked ∧ (takeDue State.windowDue expireDueWindows s).acq = .off ∧
        (takeDue State.windowDue expireDueWindows s).synth = .stopped ∧
        (takeDue State.windowDue expireDueWindows s).rowTT = s.tt ∧ (takeDue State.windowDue expireDueWindows s).tt = s.tt + 1) := by
  unfold takeDue
  split
  · next due =>
    have ticking : s.synth = .locked := by
      unfold State.windowDue at due
      exact ticking_iff.mp (Bool.and_eq_true_iff.mp due).1
    rw [finish_of_empty ((expireDueWindows_keeps s).inbound.trans empty)]
    obtain ⟨acq, synth, rowTT⟩ := schedule_clock (expireDueWindows s)
    rw [acq, synth, rowTT, (schedule_upkeep _).tt]
    rcases expireDueWindows_clock ticking with ⟨tt, -⟩ | ⟨draining, rest⟩
    · exact .inl tt
    · exact .inr ⟨draining, ticking, rest⟩
  · exact .inl rfl

theorem takeTick_tt (words : Vector LaneWord 16) {s : State} (empty : s.link.inbound = []) :
    (takeTick words s).tt = s.tt ∨ (takeTick words s).tt = s.tt + 1 := by
  obtain ⟨u, passing, e⟩ := tickExpiries_spec s
  have upkeep := passing.upkeep empty
  have keeps := tickExpiries_keeps empty
  have windows := takeWindows_clock (upkeep.inbound.trans empty)
  rw [← e, upkeep.tt] at windows
  unfold takeTick
  split
  · simp only
    generalize tickExpiries s = v at windows keeps ⊢
    split
    · next ticking =>
      rw [finish_of_empty (((tickRow_keeps words v).inbound.trans keeps.inbound).trans empty), (schedule_upkeep _).tt, tickRow_tt]
      rcases windows with tt | ⟨-, -, -, stopped, -⟩
      · exact .inr (by rw [tt])
      · rw [ticking_iff.mp ticking] at stopped
        cases stopped
    · rcases windows with tt | ⟨-, -, -, -, -, tt⟩
      · exact .inl tt
      · exact .inr tt
  · exact .inl rfl

theorem zeroTime_of_kind {c : Instr} {r : Request} (requested : requestOf c = some r) (kind : r.kind = 0x04) :
    ∃ tag, c = .zeroTime tag := by
  cases c <;> simp only [requestOf, Option.some.injEq, reduceCtorEq] at requested <;> subst requested <;> simp at kind ⊢

theorem softReset_of_kind {c : Instr} {r : Request} (requested : requestOf c = some r) (kind : r.kind = 0x10) :
    ∃ tag, c = .softReset tag := by
  cases c <;> simp only [requestOf, Option.some.injEq, reduceCtorEq] at requested <;> subst requested <;> simp at kind ⊢

/-- Settles O18: of the events only a row and a drain to OFF that a window expiry completes move Test Time, and of the requests only
ZERO_TIME and SOFT_RESET. -/
theorem testTimeMovesOnlyByTicksAndResets : Obligations.TestTimeMovesOnlyByTicksAndResets := by
  intro c s t empty h
  refine ⟨fun words row => ?_, fun window => ?_, fun notPowerOn notRow notZero notReset notFrame notWindow => ?_⟩
  · subst row
    obtain rfl := Host.Outcome.next.inj h
    refine ⟨fun notLocked => ?_, takeTick_tt words empty⟩
    unfold takeTick
    rw [if_neg (mt ticking_iff.mp notLocked)]
  · subst window
    obtain rfl := Host.Outcome.next.inj h
    exact takeWindows_clock empty
  · rcases command_kinds c with powerOn | ⟨r, requested⟩ | ⟨wire, frame⟩ | ⟨words, row⟩ | window | event
    · exact absurd powerOn notPowerOn
    · rw [exec_request requested] at h
      obtain rfl := Host.Outcome.next.inj h
      exact submit_tt empty (fun kind => (zeroTime_of_kind requested kind).elim notZero)
        fun kind => (softReset_of_kind requested kind).elim notReset
    · exact absurd frame (notFrame wire)
    · exact absurd row (notRow words)
    · exact absurd window notWindow
    · exact ((exec_event event h).upkeep empty).tt

end Sys2Proof.Machine
end

section
/-! The step, the resets and the identity (O1 to O5, O19), and the threshold codes of R64 (O7). -/

namespace Sys2Proof.Machine

/-! ## The step -/

/-- Settles O1: a step on a queue that is not empty is the front command's meaning. -/
theorem stepTakesFrontCommand : Obligations.StepTakesFrontCommand := fun _ _ _ => rfl

/-- No timer of the link clock has run out before a moment. -/
theorem passLink_of_later {n t : Nat} {s : State} (later : ∀ (timer : LinkTimer) (d : Nat), timer.deadline s = some d → t ≤ d) :
    passLink n t s = setNow t s := by
  cases n with
  | zero => rfl
  | succ n =>
    unfold passLink
    split
    · next timer d next => rw [if_neg (Nat.not_lt.mpr (later timer d (nextTimer_deadline next)))]
    · rfl

/-- Settles O2: no deadline lies before the next microsecond. -/
theorem idleStepMovesLinkClock : Obligations.IdleStepMovesLinkClock := by
  intro s empty later
  unfold step
  rw [empty]
  show Host.Outcome.next (passLink passFuel (s.now + 1) s) = _
  rw [passLink_of_later later]
  simp [setNow, empty]

/-! ## Resets -/

/-- R64: the power-on threshold of 45 dB at 305 nV. -/
theorem reset_thrCode : thrCodeOf 45 305 = 584 := by decide

/-- R183: the CRCs of the power-on tables, over their canonical forms. -/
theorem defaultTables_crcs : defaultTables.crcs =
    { setup := crc32 [0x0B, 0xB8, 0, 50, 0x03, 0xE8, 255, 4, 0, 0, 0x07, 0xD0, 0, 0, 0, 200, 0x10, 0, 0, 0, 0, 0, 45, 0, 4]
      channel := crc32 (List.replicate 16
        [0, 45, 10, 0x01, 0x31, 0, 100, 0x01, 0x90, 0, 200, 0, 0x03, 0x0D, 0x40, 0, 0, 0, 0x01, 0, 0x08, 0, 0, 0, 0x03, 0xE8]).flatten
      pair := crc32 (List.replicate 448 0)
      filter := crc32 (List.replicate 104 0)
      zone := crc32 (List.replicate 32 0) } := by
  have setup : defaultTables.canonical .setup
      = [0x0B, 0xB8, 0, 50, 0x03, 0xE8, 255, 4, 0, 0, 0x07, 0xD0, 0, 0, 0, 200, 0x10, 0, 0, 0, 0, 0, 45, 0, 4] := by decide +kernel
  have channel : defaultTables.canonical .channel = (List.replicate 16 ([0, 45, 10, 0x01, 0x31, 0, 100, 0x01, 0x90, 0, 200, 0,
      0x03, 0x0D, 0x40, 0, 0, 0, 0x01, 0, 0x08, 0, 0, 0, 0x03, 0xE8] : List Byte)).flatten := by decide +kernel
  have pair : defaultTables.canonical .pair = List.replicate 448 0 := by decide +kernel
  have filter : defaultTables.canonical .filter = List.replicate 104 0 := by decide +kernel
  have zone : defaultTables.canonical .zone = List.replicate 32 0 := by decide +kernel
  unfold Tables.crcs Tables.crcOf
  rw [setup, channel, pair, filter, zone]

/-- Settles O3: POWER_ON_RESET answers the reset state, whose CRCs are those of the power-on tables in canonical form. -/
theorem powerOnResetLeaves : Obligations.PowerOnResetLeaves := by
  intro s
  refine congrArg Host.Outcome.next ?_
  simp only [State.reset, defaultTables_crcs, Detector.reset, thrDbOf, defaultChannel, reset_thrCode]
  rfl

theorem State.reset_balanced : State.reset.Balanced := balanced_powerOn []

/-- Settles O4: each invariant holds of empty queues, an empty store, the power-on tables and a part at rest. -/
theorem resetMeetsTheInvariants : Obligations.ResetMeetsTheInvariants :=
  ⟨rfl, State.reset_balanced, State.reset_capacity, State.reset_shedFollows, rfl, State.reset_blocksOwnedOnce,
    fun _ => rfl, State.reset_peakCovers, State.reset_modesAgree⟩

/-- Settles O5: each of the 101 entries against the formula. -/
theorem ladderIsItsFormula : Obligations.LadderIsItsFormula := ⟨ladderTable_length, by decide +kernel⟩

/-! ## The identity -/

/-- Section 13.4: the bytes of the identity. -/
theorem identityBytes_eq (s : State) : identityBytes s =
    [0x0A, 0x16, 1, 1, 0, 16, 0, 1, 0, 16, 0, 64, 0, 8, 0, 4, 0, 2, 1, 0, 0, 32, 0, 16, 0, 4, 0, 8, 0, 1, 4, 0, 1, 0, 0, 64,
      0, 1, 0, 1, if s.lastReset = .soft then 1 else 0] := by
  unfold identityBytes
  cases s.lastReset <;> rfl

theorem judge_identify (tag : Byte) (s : State) :
    judge { kind := 0x01, tag := tag, args := [] } s = { state := s, code := .ok, body := identityBytes s } := rfl

/-- R157: with nothing to send the scheduler starts no frame. -/
theorem schedule_of_nothing {s : State} (responses : s.rq.responses = []) (notices : s.rq.notices = []) (events : s.rq.events = [])
    (hits : s.rq.hits = []) (slot : s.timer.slot = none) (sendList : s.wave.sendList = []) : schedule s = s := by
  have ineligible : s.hitsEligible = false := by simp [State.hitsEligible, hits]
  unfold schedule scheduleFrom
  split
  · simp [responses, scheduleNotices, notices, scheduleEvents, events, scheduleHits, ineligible, scheduleInterval, slot,
      scheduleWaveform, sendList]
  · rfl

/-- R157: the response at the head of the queue leaves first. -/
theorem schedule_response {s : State} (canStart : s.canStart = true) {r : Response} {rest : List Response}
    (responses : s.rq.responses = r :: rest) :
    schedule s = { s with rq := { s.rq with responses := rest, tx := some (.response r) } } := by
  unfold schedule
  rw [if_pos canStart]
  unfold scheduleFrom
  rw [responses]
  rfl

/-- Settles O19: the interpreter answers the identity; a ready receiver gets it at the interpreter's own call of the scheduler. -/
theorem identifyAnswers : Obligations.IdentifyAnswers := by
  intro s tag
  simp only [← identityBytes_eq]
  refine ⟨fun quiet => exec_quiet (i := .identify tag) quiet rfl (judge_identify tag (countTaken s)) quiet.cannotStart,
    fun empty idle ready responses notices events hits slot sendList => ?_⟩
  have nothing (inbound : List Request) : schedule { s with link := { s.link with inbound := inbound } }
      = { s with link := { s.link with inbound := inbound } } :=
    schedule_of_nothing responses notices events hits slot sendList
  rw [exec_request (i := .identify tag) rfl]
  unfold submit
  rw [offerRequest_empty empty]
  show Host.Outcome.next (pump 1 _) = _
  unfold pump
  simp only [nothing, responses, List.length_nil, show 0 < responseCapacity by decide, if_true]
  rw [emptied empty]
  have taken : (takeRequest { kind := 0x01, tag := tag, args := [] } s).rq.responses
      = [{ tag := tag, kind := 0x01, code := .ok, body := identityBytes s }] := by
    show s.rq.responses ++ _ = _
    rw [responses]
    rfl
  have canStart : (takeRequest { kind := 0x01, tag := tag, args := [] } s).canStart = true := by
    show (s.rq.tx.isNone && s.rq.ready) = true
    rw [idle, ready]
    rfl
  unfold pump
  rw [schedule_response canStart taken]
  show Host.Outcome.next { s with link := _, rq := { s.rq with responses := [], tx := _ } } = _
  rw [← responses]
  rfl

/-! ## Threshold codes -/

/-- R41: the level of a FLOATING threshold with valid noise. -/
theorem thrDbOf_floating {e : ChannelEntry} (mode : e.mode = .floating) (n : Nat) :
    thrDbOf e (some n) = clampNat (n + e.marginDb) 20 99 := by
  unfold thrDbOf
  rw [mode]

theorem thrDbOf_entry {e : ChannelEntry} {noise : Option Nat} (h : e.mode = .fixed ∨ noise = none) :
    thrDbOf e noise = e.thresholdDb := by
  unfold thrDbOf
  rcases h with mode | none
  · rw [mode]
  · rw [none]; cases e.mode <;> rfl

/-- The ladder's voltages from 20 dB up are positive. -/
theorem ladderVolt_pos {a : Nat} (ha : a ≤ 100) : 1000 ≤ ladderVolt a := by
  have all : ∀ a : Fin 101, 1000 ≤ ladderVolt a.val := by decide +kernel
  exact all ⟨a, Nat.lt_succ_of_le ha⟩

/-- R64: a magnitude reaches the code before it is limited exactly when its voltage reaches the level. -/
theorem ceil_le_iff {volt lsb m : Nat} (positive : 1 ≤ lsb) : (volt + lsb - 1) / lsb ≤ m ↔ volt ≤ m * lsb := by
  rw [← Nat.lt_succ_iff, Nat.div_lt_iff_lt_mul positive, Nat.succ_mul]
  omega

theorem thrCodeOf_range (level lsb : Nat) : 1 ≤ thrCodeOf level lsb ∧ thrCodeOf level lsb ≤ 32767 := by
  unfold thrCodeOf clampNat
  split
  · omega
  · split <;> omega

/-- R64: where a code within 32767 reaches the level, the code is not limited. -/
theorem thrCodeOf_le_iff {level lsb : Nat} (high : level ≤ 100) (positive : 1 ≤ lsb) (uncapped : ladderVolt level ≤ 32767 * lsb)
    (m : Nat) : thrCodeOf level lsb ≤ m ↔ ladderVolt level ≤ m * lsb := by
  have atMost := (ceil_le_iff positive).mpr uncapped
  have atLeast : ¬ (ladderVolt level + lsb - 1) / lsb ≤ 0 := by
    rw [ceil_le_iff positive]
    have := ladderVolt_pos high
    omega
  rw [← ceil_le_iff positive]
  unfold thrCodeOf clampNat
  generalize (ladderVolt level + lsb - 1) / lsb = code at atMost atLeast ⊢
  rw [if_neg (by omega), if_neg (by omega)]

/-- Settles O7: the code is the rounded-up quotient of R64 within its limits, and R63's level is the largest that a product reaches. -/
theorem thresholdCodeIsSmallest : Obligations.ThresholdCodeIsSmallest := by
  refine ⟨fun e noise => ⟨thrDbOf_entry, fun n mode valid => ?_⟩, fun level lsb low high positive _ => ?_⟩
  · rw [valid, thrDbOf_floating mode]
    rfl
  · have level100 : level ≤ 100 := by omega
    have bottom : ∀ m, ladderVolt level ≤ m * lsb → ladderVolt 0 ≤ m * lsb := by
      intro m reached
      have rises : ladderVolt 0 ≤ ladderVolt level := by
        have := ladderVolt_pos level100
        exact le_trans (by decide) this
      exact rises.trans reached
    have levels : ∀ m, ladderVolt level ≤ m * lsb ↔ level ≤ ladderLevel m lsb := by
      intro m
      by_cases reached : ladderVolt 0 ≤ m * lsb
      · exact (le_ladderLevel_iff reached level100).symm
      · rw [ladderLevel_of_below (Nat.lt_of_not_le reached)]
        exact ⟨fun h => absurd (bottom m h) reached, fun h => by omega⟩
    refine ⟨(thrCodeOf_range level lsb).1, (thrCodeOf_range level lsb).2, fun uncapped => ?_, fun capped => ?_, fun above m hm => ?_⟩
    · have reaches := thrCodeOf_le_iff level100 positive uncapped
      exact ⟨(reaches _).mp le_rfl, fun c below => Nat.lt_of_not_le fun h => absurd ((reaches c).mpr h) (Nat.not_le.mpr below),
        fun m _ => ⟨reaches m, (reaches m).trans (levels m)⟩⟩
    · have beyond : ¬ (ladderVolt level + lsb - 1) / lsb ≤ 32767 := fun h =>
        absurd ((ceil_le_iff positive).mp h) (Nat.not_le.mpr capped)
      show clampNat ((ladderVolt level + lsb - 1) / lsb) 1 32767 = 32767
      generalize (ladderVolt level + lsb - 1) / lsb = code at beyond
      unfold clampNat
      rw [if_neg (by omega), if_pos (by omega)]
    · have below : ¬ ladderVolt level ≤ m * lsb := Nat.not_le.mpr ((Nat.mul_le_mul_right lsb hm).trans_lt above)
      exact Nat.lt_of_not_le (mt (levels m).mpr below)

end Sys2Proof.Machine
end

section
/-! R24 to R26: what GO answers at a quiet part in every acquisition state (O20, O21, O22). -/

namespace Sys2Proof.Machine

/-! ## The owner's answer and the row -/

/-- A GO row at a quiet part, given what the Acquisition Controller answers once the request is counted. -/
theorem exec_go_quiet {s t : State} {code : Code} {i : Instr} {tag target : Byte} {owner : State → Answer} (quiet : s.Quiet)
    (requested : requestOf i = some { kind := 0x02, tag := tag, args := [target] })
    (judged : ∀ u, judge { kind := 0x02, tag := tag, args := [target] } u = owner u)
    (answer : owner (countTaken s) = Answer.controlled (countTaken t) code) (cannotStart : t.canStart = false) :
    exec i s = .next (t.answered tag 0x02 code (acqBytes t)) :=
  exec_quiet quiet requested ((judged _).trans answer) cannotStart

theorem setFactor_acq (f : Factor) (index : Nat) (reached : Option Nat) (s : State) :
    (setFactor f index reached s).acq = s.acq := (setFactor_routine f index reached s).acq

/-- R172: the controller's body tells the acquisition state alone. -/
theorem acqBytes_congr {s t : State} (acq : t.acq = s.acq) : acqBytes t = acqBytes s := by
  unfold acqBytes
  rw [acq]

/-- R172: the substep and the target that a start for STANDBY answers. -/
theorem acqBytes_startingStandby {s : State} {sub : Substep} (acq : s.acq = .starting .standby sub) :
    acqBytes s = [1, byte sub.number, 2] := by
  unfold acqBytes
  rw [acq]
  cases sub <;> rfl

theorem acqBytes_startingArmed {s : State} {sub : Substep} (acq : s.acq = .starting .armed sub) :
    acqBytes s = [1, byte sub.number, 4] := by
  unfold acqBytes
  rw [acq]
  cases sub <;> rfl

/-! ## The controller's steps in closed form -/

/-- R1, R29: entry to STARTING. -/
theorem enterStarting_eq (target : StartTarget) (s : State) :
    enterStarting target s = { s with acq := .starting target .locking, synth := s.synthAtStart } := by
  unfold enterStarting requestStart State.synthAtStart
  simp only
  cases h : s.synth <;> simp [lockTimeout]

/-- R31, R38, R126: entry to STANDBY. -/
theorem enterStandby_eq (s : State) :
    enterStandby s = setFactor .stateReached 0 (some 2) { s with acq := .standby, timer := s.timerAtStart } := by
  unfold enterStandby
  rw [startTimer_eq]
  rfl

/-- Standing down leaves a detector that stands down again as it is. -/
theorem Detector.stoodDown_stoodDown (d : Detector) : d.stoodDown.stoodDown = d.stoodDown := by
  obtain ⟨m, _, _, _, w, _⟩ := d
  cases m <;> cases w <;> rfl

/-- R10: a lane that enters OFF forgets what standing down made of it. -/
theorem Lane.stoodDown_toOff (d : Detector) (ticking : Bool) (l : Lane) : (l.stoodDown d ticking).toOff = l.toOff := by
  rw [← followWaiting_stoodDown d .armed ticking l (by simp), followWaiting_toOff]

/-- R28: a part that has stood down goes OFF as one that has not. -/
theorem wentOff_stoodDown (target : DrainTarget) (s : State) : (s.stoodDown target).wentOff = s.wentOff := by
  unfold State.wentOff State.stoodDown
  simp only [tabulate_get, Detector.stoodDown_stoodDown, Lane.stoodDown_toOff]

/-- R28, R33: an entry to OFF from LEARNING with no hit open. -/
theorem enterOff_learning {s : State} {n p : Nat} (acq : s.acq = .learning n p) (closed : ∀ ch : Channel, s.dets[ch].open? = none) :
    enterOff .off s = State.wentOff { s with dets := tabulate fun ch => { s.dets[ch] with learnSum := 0, learnCount := 0 } } := by
  have left : leaveForOff s
      = leaveForOff { s with acq := .off, dets := tabulate fun ch => { s.dets[ch] with learnSum := 0, learnCount := 0 } } := by
    unfold leaveForOff
    rw [acq]
    rfl
  have same : enterOff .off s
      = enterOff .off { s with acq := .off, dets := tabulate fun ch => { s.dets[ch] with learnSum := 0, learnCount := 0 } } := by
    unfold enterOff
    rw [left]
  rw [same, enterOff_off _ (fun ch => ?_) (by simp)]
  · rfl
  · simp only [tabulate_get]
    exact closed ch

theorem checkDrain_waits {s : State} (waits : ¬ s.NothingOpen) : checkDrain s = s := by
  unfold checkDrain
  split
  · rw [if_neg (mt drained_iff.mp waits)]
  all_goals rfl

theorem nothingOpen_stoodDown {target : DrainTarget} {s : State} : (s.stoodDown target).NothingOpen ↔ s.NothingOpen :=
  drained_iff.symm.trans (stoodDown_drained target s)

/-- R36, R37: entry to DRAINING with something open. -/
theorem enterDraining_waits {target : DrainTarget} {s : State} (waits : ¬ s.NothingOpen) :
    enterDraining target s = s.stoodDown target := by
  rw [enterDraining_eq, checkDrain_waits (mt nothingOpen_stoodDown.mp waits)]

theorem checkDrain_reaches {s : State} {target : DrainTarget} (acq : s.acq = .draining target) (drained : s.NothingOpen) :
    checkDrain s = reachDrainTarget target s := by
  unfold checkDrain
  rw [acq]
  exact if_pos (drained_iff.mpr drained)

/-- R37, R38: entry to DRAINING with nothing open, for STANDBY. -/
theorem enterDraining_standby {s : State} (drained : s.NothingOpen) : enterDraining .standby s =
    setFactor .stateReached 0 (some 2) { s.stoodDown .standby with acq := .standby, timer := s.timerAtStart } := by
  rw [enterDraining_eq, checkDrain_reaches rfl (nothingOpen_stoodDown.mpr drained)]
  exact enterStandby_eq _

/-- R28, R37, R38: a drain to OFF with nothing open. -/
theorem reachDrainTarget_off {s : State} (drained : s.NothingOpen) (notLearning : ∀ n p, s.acq ≠ .learning n p) :
    reachDrainTarget .off s = setFactor .stateReached 0 (some 0) s.wentOff := by
  show reachState (enterOff .off s) = _
  rw [enterOff_off s drained.hits notLearning]
  rfl

theorem enterDraining_off {s : State} (drained : s.NothingOpen) :
    enterDraining .off s = setFactor .stateReached 0 (some 0) s.wentOff := by
  have stood := nothingOpen_stoodDown (target := .off).mpr drained
  rw [enterDraining_eq, checkDrain_reaches rfl stood, reachDrainTarget_off stood (by simp [State.stoodDown]), wentOff_stoodDown]

/-! ## GO(STANDBY) -/

theorem exec_goStandby_quiet {s t : State} {code : Code} (tag : Byte) (quiet : s.Quiet)
    (answer : goStandby (countTaken s) = Answer.controlled (countTaken t) code) (cannotStart : t.canStart = false) :
    exec (.goStandby tag) s = .next (t.answered tag 0x02 code (acqBytes t)) :=
  exec_go_quiet (owner := goStandby) quiet rfl (fun _ => rfl) answer cannotStart

/-- The controller's table of R24, by the acquisition state. -/
def standbyAnswer (s : State) : Acq → Answer
  | .off => Answer.controlled (enterStarting .standby s) .ok
  | .starting .standby _ => Answer.controlled s .already
  | .starting .armed _ => Answer.controlled s .busy
  | .standby => Answer.controlled s .already
  | .learning _ _ => Answer.controlled s .busy
  | .armed => Answer.controlled (enterDraining .standby s) .ok
  | .draining .standby => Answer.controlled s .already
  | .draining .off => Answer.controlled s .busy

theorem goStandby_of_acq {s : State} {a : Acq} (acq : s.acq = a) : goStandby s = standbyAnswer s a := by
  subst acq
  unfold goStandby standbyAnswer
  rfl

/-- Settles O20: the controller's table of R24, row by row. -/
theorem goStandbyAnswers : Obligations.GoStandbyAnswers := by
  intro s tag quiet result
  have unchanged {a : Acq} {code : Code} {body : List Byte} (acq : s.acq = a) (bytes : acqBytes s = body)
      (answer : goStandby (countTaken s) = Answer.controlled (countTaken s) code) : result s code body := by
    subst bytes
    exact exec_goStandby_quiet tag quiet answer quiet.cannotStart
  refine ⟨fun acq => ?_, fun sub acq => ?_, fun sub acq => ?_, fun acq => ?_, fun n p acq => ?_, fun acq waits => ?_,
    fun acq drained => ?_, fun acq => ?_, fun acq => ?_⟩
  · refine exec_goStandby_quiet (t := { s with acq := .starting .standby .locking, synth := s.synthAtStart }) tag quiet ?_
      quiet.cannotStart
    rw [goStandby_of_acq (s := countTaken s) acq, standbyAnswer, enterStarting_eq]
    rfl
  · exact unchanged acq (acqBytes_startingStandby acq) (goStandby_of_acq (s := countTaken s) acq)
  · exact unchanged acq (acqBytes_startingArmed acq) (goStandby_of_acq (s := countTaken s) acq)
  · exact unchanged acq (by unfold acqBytes; rw [acq]; rfl) (goStandby_of_acq (s := countTaken s) acq)
  · exact unchanged acq (by unfold acqBytes; rw [acq]; rfl) (goStandby_of_acq (s := countTaken s) acq)
  · refine exec_goStandby_quiet (t := s.stoodDown .standby) tag quiet ?_ quiet.cannotStart
    have counted : ¬ (countTaken s).NothingOpen := fun h => waits ⟨h.hits, h.contexts⟩
    rw [goStandby_of_acq (s := countTaken s) acq, standbyAnswer]
    simp only [enterDraining_waits counted]
    rfl
  · have counted : (countTaken s).NothingOpen := ⟨drained.hits, drained.contexts⟩
    have answer : goStandby (countTaken s) = Answer.controlled (countTaken (setFactor .stateReached 0 (some 2)
        { s.stoodDown .standby with acq := .standby, timer := s.timerAtStart })) .ok := by
      rw [goStandby_of_acq (s := countTaken s) acq, standbyAnswer, ← setFactor_countTaken]
      simp only [enterDraining_standby counted]
      rfl
    have taken := exec_goStandby_quiet tag quiet answer ((setFactor_canStart _ _ _ _).trans quiet.cannotStart)
    rw [acqBytes_congr (setFactor_acq _ _ _ _)] at taken
    exact taken
  · exact unchanged acq (by unfold acqBytes; rw [acq]; rfl) (goStandby_of_acq (s := countTaken s) acq)
  · exact unchanged acq (by unfold acqBytes; rw [acq]; rfl) (goStandby_of_acq (s := countTaken s) acq)

/-! ## GO(ARMED) -/

theorem exec_goArmed_quiet {s t : State} {code : Code} (tag : Byte) (quiet : s.Quiet)
    (answer : goArmed (countTaken s) = Answer.controlled (countTaken t) code) (cannotStart : t.canStart = false) :
    exec (.goArmed tag) s = .next (t.answered tag 0x02 code (acqBytes t)) :=
  exec_go_quiet (owner := goArmed) quiet rfl (fun _ => rfl) answer cannotStart

/-- R25: a DATA channel is enabled. -/
theorem anyEnabledData_iff (t : Tables) :
    t.anyEnabledData = true ↔ ∃ ch : Channel, t.channel[ch].enabled = true ∧ t.channel[ch].role = .data := by
  unfold Tables.anyEnabledData ChannelEntry.enabledData
  simp only [List.any_eq_true, Bool.and_eq_true, beq_iff_eq]
  constructor
  · rintro ⟨e, mem, enabled⟩
    obtain ⟨i, hi, rfl⟩ := Vector.mem_iff_getElem.mp (Vector.mem_toList_iff.mp mem)
    exact ⟨⟨i, hi⟩, enabled⟩
  · rintro ⟨ch, enabled⟩
    exact ⟨_, Vector.mem_toList_iff.mpr (Vector.getElem_mem ch.isLt), enabled⟩

theorem goArmed_refused {s : State} (noChannel : ¬ s.tables.anyEnabledData = true) : goArmed s = Answer.controlled s .noChannel :=
  if_neg noChannel

/-- The controller's table of R25, by the acquisition state, with a DATA channel enabled. -/
def armedAnswer (s : State) : Acq → Answer
  | .off => Answer.controlled (enterStarting .armed s) .ok
  | .starting .armed _ => Answer.controlled s .already
  | .starting .standby _ => Answer.controlled s .busy
  | .standby => Answer.controlled (enterLearning s) .ok
  | .learning _ _ => Answer.controlled s .already
  | .armed => Answer.controlled s .already
  | .draining _ => Answer.controlled s .busy

theorem goArmed_of_acq {s : State} {a : Acq} (channel : s.tables.anyEnabledData = true) (acq : s.acq = a) :
    goArmed s = armedAnswer s a := by
  subst acq
  unfold goArmed armedAnswer
  exact if_pos channel

/-- Settles O21: the controller's table of R25, row by row, NO_CHANNEL first. -/
theorem goArmedAnswers : Obligations.GoArmedAnswers := by
  intro s tag quiet result
  refine ⟨fun guards => ?_, fun ch enabled role => ?_⟩
  · refine exec_goArmed_quiet (t := s) tag quiet (goArmed_refused (s := countTaken s) fun any => ?_) quiet.cannotStart
    obtain ⟨ch, enabled, role⟩ := (anyEnabledData_iff s.tables).mp any
    rw [guards ch enabled] at role
    cases role
  · have channel : (countTaken s).tables.anyEnabledData = true := (anyEnabledData_iff s.tables).mpr ⟨ch, enabled, role⟩
    have unchanged {a : Acq} {code : Code} {body : List Byte} (acq : s.acq = a) (bytes : acqBytes s = body)
        (answer : goArmed (countTaken s) = Answer.controlled (countTaken s) code) : result s code body := by
      subst bytes
      exact exec_goArmed_quiet tag quiet answer quiet.cannotStart
    refine ⟨fun acq => ?_, fun sub acq => ?_, fun sub acq => ?_, fun acq => ?_, fun n p acq => ?_, fun acq => ?_, fun acq => ?_,
      fun acq => ?_⟩
    · refine exec_goArmed_quiet (t := { s with acq := .starting .armed .locking, synth := s.synthAtStart }) tag quiet ?_
        quiet.cannotStart
      rw [goArmed_of_acq (s := countTaken s) channel acq, armedAnswer, enterStarting_eq]
      rfl
    · exact unchanged acq (acqBytes_startingArmed acq) (goArmed_of_acq (s := countTaken s) channel acq)
    · exact unchanged acq (acqBytes_startingStandby acq) (goArmed_of_acq (s := countTaken s) channel acq)
    · exact exec_goArmed_quiet (t := enterLearning s) tag quiet (goArmed_of_acq (s := countTaken s) channel acq) quiet.cannotStart
    · exact unchanged acq (by unfold acqBytes; rw [acq]; rfl) (goArmed_of_acq (s := countTaken s) channel acq)
    · exact unchanged acq (by unfold acqBytes; rw [acq]; rfl) (goArmed_of_acq (s := countTaken s) channel acq)
    · exact unchanged acq (by unfold acqBytes; rw [acq]; rfl) (goArmed_of_acq (s := countTaken s) channel acq)
    · exact unchanged acq (by unfold acqBytes; rw [acq]; rfl) (goArmed_of_acq (s := countTaken s) channel acq)

/-! ## GO(OFF) -/

theorem exec_goOff_quiet {s t : State} {code : Code} (tag : Byte) (quiet : s.Quiet)
    (answer : goOff (countTaken s) = Answer.controlled (countTaken t) code) (cannotStart : t.canStart = false) :
    exec (.goOff tag) s = .next (t.answered tag 0x02 code (acqBytes t)) :=
  exec_go_quiet (owner := goOff) quiet rfl (fun _ => rfl) answer cannotStart

/-- The controller's table of R26, by the acquisition state. -/
def offAnswer (s : State) : Acq → Answer
  | .off => Answer.controlled s .already
  | .starting _ _ | .standby | .learning _ _ => Answer.controlled (reachState (enterOff .off s)) .ok
  | .armed => Answer.controlled (enterDraining .off s) .ok
  | .draining .standby => Answer.controlled { s with acq := .draining .off } .ok
  | .draining .off => Answer.controlled s .already

theorem goOff_of_acq {s : State} {a : Acq} (acq : s.acq = a) : goOff s = offAnswer s a := by
  subst acq
  unfold goOff offAnswer
  rfl

/-- Settles O22: the controller's table of R26, row by row. -/
theorem goOffAnswers : Obligations.GoOffAnswers := by
  intro s tag quiet result
  have reached {u : State} (answer : goOff (countTaken s)
      = Answer.controlled (setFactor .stateReached 0 (some 0) (countTaken u.wentOff)) .ok) (same : u.wentOff.canStart = s.canStart) :
      result (setFactor .stateReached 0 (some 0) u.wentOff) .ok [0, 255, 255] := by
    rw [setFactor_countTaken] at answer
    have taken := exec_goOff_quiet tag quiet answer ((setFactor_canStart _ _ _ _).trans (same.trans quiet.cannotStart))
    rw [acqBytes_congr (setFactor_acq _ _ _ _)] at taken
    exact taken
  refine ⟨fun acq => ?_, fun acq closed => ?_, fun ⟨n, p, acq⟩ closed => ?_, fun acq waits => ?_, fun acq drained => ?_,
    fun acq => ?_, fun acq => ?_⟩
  · have taken := exec_goOff_quiet (t := s) tag quiet (goOff_of_acq (s := countTaken s) acq) quiet.cannotStart
    rw [show acqBytes s = [0, 255, 255] by unfold acqBytes; rw [acq]; rfl] at taken
    exact taken
  · have notLearning : ∀ n p, (countTaken s).acq ≠ .learning n p := by
      intro n p learning
      rcases acq with ⟨t, sub, starting⟩ | standby
      · exact absurd (starting.symm.trans learning) (by simp)
      · exact absurd (standby.symm.trans learning) (by simp)
    refine reached (u := s) ?_ rfl
    have went : goOff (countTaken s) = Answer.controlled (reachState (enterOff .off (countTaken s))) .ok := by
      rcases acq with ⟨t, sub, starting⟩ | standby
      · exact goOff_of_acq (s := countTaken s) starting
      · exact goOff_of_acq (s := countTaken s) standby
    rw [went, enterOff_off (countTaken s) closed notLearning]
    rfl
  · refine reached (u := { s with dets := tabulate fun ch => { s.dets[ch] with learnSum := 0, learnCount := 0 } }) ?_ rfl
    rw [goOff_of_acq (s := countTaken s) acq, offAnswer]
    simp only [enterOff_learning (s := countTaken s) acq closed]
    rfl
  · refine exec_goOff_quiet (t := s.stoodDown .off) tag quiet ?_ quiet.cannotStart
    have counted : ¬ (countTaken s).NothingOpen := fun h => waits ⟨h.hits, h.contexts⟩
    rw [goOff_of_acq (s := countTaken s) acq, offAnswer]
    simp only [enterDraining_waits counted]
    rfl
  · have counted : (countTaken s).NothingOpen := ⟨drained.hits, drained.contexts⟩
    refine reached (u := s) ?_ rfl
    rw [goOff_of_acq (s := countTaken s) acq, offAnswer]
    simp only [enterDraining_off counted]
    rfl
  · exact exec_goOff_quiet (t := { s with acq := .draining .off }) tag quiet (goOff_of_acq (s := countTaken s) acq) quiet.cannotStart
  · have taken := exec_goOff_quiet (t := s) tag quiet (goOff_of_acq (s := countTaken s) acq) quiet.cannotStart
    rw [show acqBytes s = [5, 255, 0] by unfold acqBytes; rw [acq]; rfl] at taken
    exact taken

end Sys2Proof.Machine
end

section
/-! R186, R202: the canonical layout of an entry is read back as the entry, and the bytes that the loader takes are those that spell one. -/

namespace Sys2Proof.Machine

/-! ## Fields of a layout -/

/-- A field whose number fits it is read as that number. -/
theorem fieldAt_append_of_lt {n x : Nat} (fits : x < 256 ^ n) (bs : List Byte) : fieldAt (beBytes n x ++ bs) 0 n = x := by
  rw [fieldAt_beBytes_append, Nat.mod_eq_of_lt fits]

theorem singleton_optByte (o : Option Nat) : [optByte o] = beBytes 1 (o.getD 255) := by
  simp [beBytes, optByte, byte]

/-- The bytes of a layout, field by field: `sizes` lists the sizes of the fields from `offset` on. -/
def layoutFrom (bs : List Byte) : Nat → List Nat → List Byte
  | _, [] => []
  | offset, size :: sizes => beBytes size (fieldAt bs offset size) ++ layoutFrom bs (offset + size) sizes

/-- Section 13.1: bytes are their fields, where the fields fill them. -/
theorem layoutFrom_eq_drop {bs : List Byte} (sizes : List Nat) {offset : Nat} (fills : offset + sizes.sum = bs.length) :
    layoutFrom bs offset sizes = bs.drop offset := by
  induction sizes generalizing offset with
  | nil => simp [layoutFrom, ← fills]
  | cons size sizes ih =>
    rw [List.sum_cons] at fills
    rw [layoutFrom, ih (by omega), beBytes_fieldAt_append_drop (by omega)]

theorem layoutFrom_zero {bs : List Byte} {sizes : List Nat} (fills : sizes.sum = bs.length) : layoutFrom bs 0 sizes = bs := by
  rw [layoutFrom_eq_drop sizes (by omega), List.drop_zero]

theorem fieldAt_word_lt (bs : List Byte) (offset : Nat) : fieldAt bs offset 2 < 65536 := fieldAt_lt
theorem fieldAt_long_lt (bs : List Byte) (offset : Nat) : fieldAt bs offset 4 < 4294967296 := fieldAt_lt

/-! ## Reading a layout back -/

theorem decodeSetup_encodeSetup {e : SetupEntry} (values : e.inRange = true) : decodeSetup (encodeSetup e) = some e := by
  have fields : encodeSetup e = beBytes 2 e.velocity ++ (beBytes 2 e.settleMs ++ (beBytes 2 e.learnMs ++
      (beBytes 1 (e.intervalK.getD 255) ++ (beBytes 1 e.hitTrigger ++ (beBytes 4 e.flushUs ++ (beBytes 4 e.loadMarginKpa ++
        (beBytes 2 e.pGain ++ (beBytes 4 (BitVec.ofInt 32 e.pOffsetKpa).toNat ++ (beBytes 1 e.shedFloorDb ++
          (beBytes 2 e.continuousRun ++ [])))))))))) := by
    simp only [encodeSetup, signedBytes, singleton_optByte, List.append_assoc, List.append_nil]
  have range := values
  simp only [SetupEntry.inRange, Bool.and_eq_true, decide_eq_true_eq] at range
  obtain ⟨⟨⟨⟨⟨⟨⟨⟨⟨⟨velocity, settle⟩, learn⟩, interval⟩, trigger⟩, flush⟩, margin⟩, gain⟩, offset⟩, floor⟩, run⟩ := range
  have kFits : e.intervalK.getD 255 < 256 := by
    cases hk : e.intervalK with
    | none => decide
    | some k => rw [hk] at interval; have := of_decide_eq_true interval; simp only [Option.getD_some]; omega
  have kRead : (if e.intervalK.getD 255 = 255 then none else some (e.intervalK.getD 255)) = e.intervalK := by
    cases hk : e.intervalK with
    | none => rfl
    | some k =>
      rw [hk] at interval
      have := of_decide_eq_true interval
      rw [Option.getD_some, if_neg (by omega)]
  have offsetRead : (BitVec.ofNat 32 (BitVec.ofInt 32 e.pOffsetKpa).toNat).toInt = e.pOffsetKpa := by
    rw [BitVec.ofNat_toNat, BitVec.setWidth_eq, BitVec.toInt_ofInt]
    exact Int.bmod_eq_of_le (by omega) (by omega)
  unfold decodeSetup
  rw [fields]
  simp (disch := omega) only [fieldAt_beBytes_skip, fieldAt_append_of_lt, Nat.reduceSub, kRead, offsetRead]
  exact if_pos values

/-- R202: the bits of a CHANNEL entry's flag byte. -/
theorem channelFlags_bits (e : ChannelEntry) : channelFlags e < 8 ∧ (channelFlags e).testBit 0 = e.enabled ∧
    (if (channelFlags e).testBit 1 then Role.guard else .data) = e.role ∧
    (if (channelFlags e).testBit 2 then ThresholdMode.floating else .fixed) = e.mode := by
  unfold channelFlags
  cases e.enabled <;> cases e.role <;> cases e.mode <;> decide

theorem waveModeOf_number (m : WaveMode) : waveModeOf m.number = some m := by cases m <;> rfl

theorem WaveMode.number_lt (m : WaveMode) : m.number < 256 := by cases m <;> decide

theorem decodeChannel_encodeChannel {e : ChannelEntry} (values : e.inRange = true) : decodeChannel (encodeChannel e) = some e := by
  have fields : encodeChannel e = beBytes 1 (channelFlags e) ++ (beBytes 1 e.thresholdDb ++ (beBytes 1 e.marginDb ++
      (beBytes 2 e.lsbNv ++ (beBytes 2 e.pst ++ (beBytes 2 e.hct ++ (beBytes 2 e.rht ++ (beBytes 4 e.maxDuration ++
        (beBytes 1 e.energyShift ++ (beBytes 1 e.zone.val ++ (beBytes 1 e.wfMode.number ++ (beBytes 2 e.wfPre ++
          (beBytes 2 e.wfMax ++ (beBytes 2 e.guardMask.toNat ++ (beBytes 2 e.guardWindow ++ [])))))))))))))) := by
    simp only [encodeChannel, List.append_assoc, List.append_nil]
  have range := values
  simp only [ChannelEntry.inRange, Bool.and_eq_true, decide_eq_true_eq] at range
  obtain ⟨⟨⟨⟨⟨⟨⟨⟨⟨⟨threshold, margin⟩, lsb⟩, pst⟩, hct⟩, rht⟩, maxDuration⟩, shift⟩, pre⟩, wfMax⟩, window⟩ := range
  obtain ⟨flags, enabled, role, mode⟩ := channelFlags_bits e
  have zone := e.zone.isLt
  have wave := e.wfMode.number_lt
  unfold decodeChannel
  rw [fields]
  simp (disch := omega) only [fieldAt_beBytes_skip, fieldAt_append_of_lt, Nat.reduceSub, waveModeOf_number,
    enabled, role, mode, BitVec.ofNat_toNat, BitVec.setWidth_eq, Fin.ofNat_eq_cast, Fin.cast_val_eq_self]
  exact if_pos ⟨flags, zone, values⟩

theorem decodePair_encodePair {e : Option PairEntry} (values : (Entry.pair e).inRange = true) : decodePair (encodePair e) = some e := by
  cases e with
  | none => decide
  | some p =>
    have fields : encodePair (some p) = beBytes 1 1 ++ (beBytes 1 p.chA.val ++ (beBytes 1 p.chB.val ++
        (beBytes 2 p.distanceMm ++ (beBytes 2 p.dtMax ++ [])))) := by
      simp only [encodePair, List.append_assoc, List.append_nil]
    replace values : p.inRange = true := values
    have range := values
    simp only [PairEntry.inRange, Bool.and_eq_true, decide_eq_true_eq] at range
    obtain ⟨distance, dtMax⟩ := range
    have chA := p.chA.isLt
    have chB := p.chB.isLt
    unfold decodePair
    rw [fields]
    simp (disch := omega) only [fieldAt_beBytes_skip, fieldAt_append_of_lt, Nat.reduceSub, Fin.ofNat_eq_cast, Fin.cast_val_eq_self]
    exact if_pos ⟨chA, chB, values⟩

theorem featureOf_number (f : Feature) : featureOf f.number = some f := by cases f <;> rfl

theorem Feature.number_lt (f : Feature) : f.number < 256 := by cases f <;> decide

theorem flagBit_zero_lt (b : Bool) : flagBit b 0 < 2 := by cases b <;> decide

theorem flagBit_zero_eq_one (b : Bool) : flagBit b 0 = 1 ↔ b = true := by cases b <;> decide

theorem FilterAction.of_flag (a : FilterAction) :
    (if (a == .rejectOutside) = true then FilterAction.rejectOutside else .rejectInside) = a := by cases a <;> rfl

theorem decodeFilter_encodeFilter {e : FilterRule} (values : e.inRange = true) : decodeFilter (encodeFilter e) = some e := by
  have fields : encodeFilter e = beBytes 1 (flagBit e.active 0) ++ (beBytes 2 e.channelMask.toNat ++ (beBytes 1 e.feature.number ++
      (beBytes 4 e.low ++ (beBytes 4 e.high ++ (beBytes 1 (flagBit (e.action == .rejectOutside) 0) ++ []))))) := by
    simp only [encodeFilter, List.append_assoc, List.append_nil]
  have range := values
  simp only [FilterRule.inRange, Bool.and_eq_true, decide_eq_true_eq] at range
  obtain ⟨low, high⟩ := range
  have active := flagBit_zero_lt e.active
  have action := flagBit_zero_lt (e.action == .rejectOutside)
  have feature := e.feature.number_lt
  unfold decodeFilter
  rw [fields]
  simp (disch := omega) only [fieldAt_beBytes_skip, fieldAt_append_of_lt, Nat.reduceSub, featureOf_number,
    flagBit_zero_eq_one, Bool.decide_eq_true, e.action.of_flag, BitVec.ofNat_toNat, BitVec.setWidth_eq]
  exact if_pos ⟨active, action, values⟩

/-- R186, R202: the loader reads back the entry that was laid out. -/
theorem decodeEntry_encodeEntry {e : Entry} (values : e.inRange = true) : decodeEntry e.table (encodeEntry e) = some e := by
  cases e with
  | setup e =>
    show (decodeSetup (encodeSetup e)).map Entry.setup = _
    rw [decodeSetup_encodeSetup values]
    rfl
  | channel e =>
    show (decodeChannel (encodeChannel e)).map Entry.channel = _
    rw [decodeChannel_encodeChannel values]
    rfl
  | pair e =>
    show (decodePair (encodePair e)).map Entry.pair = _
    rw [decodePair_encodePair values]
    rfl
  | filter e =>
    show (decodeFilter (encodeFilter e)).map Entry.filter = _
    rw [decodeFilter_encodeFilter values]
    rfl
  | zone limit =>
    have fits : limit < 256 ^ 2 := Nat.lt_succ_of_le (of_decide_eq_true values)
    have read := fieldAt_append_of_lt (n := 2) fits []
    rw [List.append_nil] at read
    show some (Entry.zone (fieldAt (beBytes 2 limit) 0 2)) = _
    rw [read]

/-! ## The bytes that are read -/

theorem encodeSetup_of_decodeSetup {bs : List Byte} {e : SetupEntry} (length : bs.length = 25) (read : decodeSetup bs = some e) :
    e.inRange = true ∧ bs = encodeSetup e := by
  obtain ⟨values, same⟩ := Option.ite_none_right_eq_some.mp read
  obtain rfl := Option.some.inj same
  refine ⟨values, ?_⟩
  have k : (if fieldAt bs 6 1 = 255 then none else some (fieldAt bs 6 1)).getD 255 = fieldAt bs 6 1 := by
    split
    · next h => exact h.symm
    · rfl
  have offset : (BitVec.ofInt 32 (BitVec.ofNat 32 (fieldAt bs 18 4)).toInt).toNat = fieldAt bs 18 4 := by
    rw [BitVec.ofInt_toInt, BitVec.toNat_ofNat, Nat.mod_eq_of_lt (fieldAt_long_lt bs 18)]
  simp only [encodeSetup, signedBytes, singleton_optByte, k, offset]
  have whole := layoutFrom_zero (bs := bs) (sizes := [2, 2, 2, 1, 1, 4, 4, 2, 4, 1, 2]) length.symm
  simpa only [layoutFrom, Nat.reduceAdd, List.append_assoc, List.append_nil] using whole.symm

/-- R202: a flag byte below 8 is made of the flags that are read from it. -/
theorem channelFlags_read {n : Nat} (small : n < 8) (e : ChannelEntry) (enabled : e.enabled = n.testBit 0)
    (role : e.role = if n.testBit 1 then .guard else .data) (mode : e.mode = if n.testBit 2 then .floating else .fixed) :
    channelFlags e = n := by
  have all : ∀ n < 8, flagBit (n.testBit 0) 0 + flagBit ((if n.testBit 1 then Role.guard else .data) == .guard) 1
      + flagBit ((if n.testBit 2 then ThresholdMode.floating else .fixed) == .floating) 2 = n := by decide
  unfold channelFlags
  rw [enabled, role, mode]
  exact all n small

theorem number_of_waveModeOf {n : Nat} {m : WaveMode} (read : waveModeOf n = some m) : m.number = n := by
  unfold waveModeOf at read
  split at read <;> cases read <;> rfl

theorem encodeChannel_of_decodeChannel {bs : List Byte} {e : ChannelEntry} (length : bs.length = 26)
    (read : decodeChannel bs = some e) : e.inRange = true ∧ bs = encodeChannel e := by
  unfold decodeChannel at read
  simp only at read
  split at read
  · cases read
  · next wave hWave =>
    obtain ⟨⟨flags, zone, values⟩, same⟩ := Option.ite_none_right_eq_some.mp read
    obtain rfl := Option.some.inj same
    refine ⟨values, ?_⟩
    have zoneRead : (Fin.ofNat 16 (fieldAt bs 16 1)).val = fieldAt bs 16 1 := Nat.mod_eq_of_lt zone
    have maskRead : (BitVec.ofNat 16 (fieldAt bs 22 2)).toNat = fieldAt bs 22 2 :=
      Nat.mod_eq_of_lt (fieldAt_word_lt bs 22)
    unfold encodeChannel
    rw [channelFlags_read flags _ rfl rfl rfl]
    simp only [zoneRead, maskRead, number_of_waveModeOf hWave]
    have whole := layoutFrom_zero (bs := bs) (sizes := [1, 1, 1, 2, 2, 2, 2, 4, 1, 1, 1, 2, 2, 2, 2]) length.symm
    simpa only [layoutFrom, Nat.reduceAdd, List.append_assoc, List.append_nil] using whole.symm

/-- R202: 7 bytes that are read as a PAIR slot are its layout, or mark it unused. -/
theorem encodePair_of_decodePair {bs : List Byte} {e : Option PairEntry} (length : bs.length = 7) (read : decodePair bs = some e) :
    (Entry.pair e).inRange = true ∧ (bs = encodePair e ∨ e = none ∧ fieldAt bs 0 1 = 0) := by
  unfold decodePair at read
  split at read
  · next unused =>
    obtain rfl := Option.some.inj read
    exact ⟨rfl, .inr ⟨rfl, unused⟩⟩
  · next used =>
    obtain ⟨⟨a, b, values⟩, same⟩ := Option.ite_none_right_eq_some.mp read
    obtain rfl := Option.some.inj same
    refine ⟨values, .inl ?_⟩
    have aRead : (Fin.ofNat 16 (fieldAt bs 1 1)).val = fieldAt bs 1 1 := Nat.mod_eq_of_lt a
    have bRead : (Fin.ofNat 16 (fieldAt bs 2 1)).val = fieldAt bs 2 1 := Nat.mod_eq_of_lt b
    simp only [encodePair, aRead, bRead]
    have whole := layoutFrom_zero (bs := bs) (sizes := [1, 1, 1, 2, 2]) length.symm
    simpa only [layoutFrom, Nat.reduceAdd, List.append_assoc, List.append_nil, used] using whole.symm
  · cases read

theorem number_of_featureOf {n : Nat} {f : Feature} (read : featureOf n = some f) : f.number = n := by
  unfold featureOf at read
  split at read <;> cases read <;> rfl

theorem flagBit_read {n : Nat} (small : n < 2) : flagBit (decide (n = 1)) 0 = n := by
  have all : ∀ n < 2, flagBit (decide (n = 1)) 0 = n := by decide
  exact all n small

theorem actionBit_read {n : Nat} (small : n < 2) :
    flagBit ((if n = 1 then FilterAction.rejectOutside else .rejectInside) == .rejectOutside) 0 = n := by
  have all : ∀ n < 2, flagBit ((if n = 1 then FilterAction.rejectOutside else .rejectInside) == .rejectOutside) 0 = n := by decide
  exact all n small

theorem encodeFilter_of_decodeFilter {bs : List Byte} {e : FilterRule} (length : bs.length = 13) (read : decodeFilter bs = some e) :
    e.inRange = true ∧ bs = encodeFilter e := by
  unfold decodeFilter at read
  simp only at read
  split at read
  · cases read
  · next feature hFeature =>
    obtain ⟨⟨active, action, values⟩, same⟩ := Option.ite_none_right_eq_some.mp read
    obtain rfl := Option.some.inj same
    refine ⟨values, ?_⟩
    have maskRead : (BitVec.ofNat 16 (fieldAt bs 1 2)).toNat = fieldAt bs 1 2 := Nat.mod_eq_of_lt (fieldAt_word_lt bs 1)
    simp only [encodeFilter, maskRead, flagBit_read active, actionBit_read action, number_of_featureOf hFeature]
    have whole := layoutFrom_zero (bs := bs) (sizes := [1, 2, 1, 4, 4, 1]) length.symm
    simpa only [layoutFrom, Nat.reduceAdd, List.append_assoc, List.append_nil] using whole.symm

theorem fieldAt_zero_one (b : Byte) (bs : List Byte) : fieldAt (b :: bs) 0 1 = b.toNat := by simp [fieldAt, beNat]

/-- The used mark of a PAIR slot is its first byte. -/
theorem fieldAt_zero_one_eq_zero {bs : List Byte} (length : bs.length = 7) : fieldAt bs 0 1 = 0 ↔ bs.head? = some 0 := by
  cases bs with
  | nil => cases length
  | cons b bs =>
    rw [fieldAt_zero_one, List.head?_cons, Option.some_inj]
    exact ⟨fun h => BitVec.eq_of_toNat_eq h, fun h => congrArg BitVec.toNat h⟩

theorem Spells.length {id : TableId} {bs : List Byte} {e : Entry} (h : Spells id bs e) : bs.length = id.entrySize := by
  rcases h.bytes with layout | ⟨rfl, length, -⟩
  · rw [layout, encodeEntry_length, h.table]
  · rw [length, ← h.table]
    rfl

/-- R186, R202: the loader reads an entry from bytes exactly when they spell it. -/
theorem decodeEntry_iff {id : TableId} {bs : List Byte} {e : Entry} (length : bs.length = id.entrySize) :
    decodeEntry id bs = some e ↔ Spells id bs e := by
  constructor
  · intro read
    cases id with
    | setup =>
      obtain ⟨e, spelt, rfl⟩ := Option.map_eq_some_iff.mp read
      obtain ⟨values, layout⟩ := encodeSetup_of_decodeSetup length spelt
      exact ⟨values, rfl, .inl layout⟩
    | channel =>
      obtain ⟨e, spelt, rfl⟩ := Option.map_eq_some_iff.mp read
      obtain ⟨values, layout⟩ := encodeChannel_of_decodeChannel length spelt
      exact ⟨values, rfl, .inl layout⟩
    | pair =>
      obtain ⟨e, spelt, rfl⟩ := Option.map_eq_some_iff.mp read
      obtain ⟨values, layout | ⟨rfl, unused⟩⟩ := encodePair_of_decodePair length spelt
      · exact ⟨values, rfl, .inl layout⟩
      · exact ⟨values, rfl, .inr ⟨rfl, length, (fieldAt_zero_one_eq_zero length).mp unused⟩⟩
    | filter =>
      obtain ⟨e, spelt, rfl⟩ := Option.map_eq_some_iff.mp read
      obtain ⟨values, layout⟩ := encodeFilter_of_decodeFilter length spelt
      exact ⟨values, rfl, .inl layout⟩
    | zone =>
      obtain rfl := Option.some.inj read
      refine ⟨decide_eq_true (Nat.le_of_lt_succ (fieldAt_word_lt bs 0)), rfl, .inl ?_⟩
      have whole := layoutFrom_zero (bs := bs) (sizes := [2]) length.symm
      simp only [layoutFrom, List.append_nil] at whole
      exact whole.symm
  · intro spells
    rcases spells.bytes with layout | ⟨rfl, length, unused⟩
    · rw [layout, ← spells.table]
      exact decodeEntry_encodeEntry spells.values
    · rw [← spells.table]
      show (decodePair bs).map Entry.pair = _
      unfold decodePair
      rw [(fieldAt_zero_one_eq_zero length).mpr unused]
      rfl

theorem TableId.entrySize_pos (id : TableId) : 0 < id.entrySize := by cases id <;> decide

/-- R186: entries laid end to end are read one after another. -/
theorem decodeEntries_parts {id : TableId} {parts : List (List Byte × Entry)} (spell : ∀ p ∈ parts, Spells id p.1 p.2) :
    decodeEntries id parts.length (parts.flatMap Prod.fst) = some (parts.map Prod.snd) := by
  induction parts with
  | nil => rfl
  | cons p parts ih =>
    obtain ⟨first, rest⟩ := List.forall_mem_cons.mp spell
    rw [List.length_cons, decodeEntries, List.flatMap_cons, List.take_left' first.length, List.drop_left' first.length, ih rest,
      (decodeEntry_iff first.length).mpr first]
    rfl

/-- R186: what is read are entries laid end to end. -/
theorem parts_of_decodeEntries {id : TableId} {n : Nat} {bs : List Byte} {es : List Entry} (length : bs.length = n * id.entrySize)
    (read : decodeEntries id n bs = some es) :
    ∃ parts : List (List Byte × Entry), (∀ p ∈ parts, Spells id p.1 p.2) ∧ parts.flatMap Prod.fst = bs := by
  induction n generalizing bs es with
  | zero =>
    rw [Nat.zero_mul] at length
    exact ⟨[], nofun, (List.eq_nil_of_length_eq_zero length).symm⟩
  | succ n ih =>
    rw [Nat.succ_mul] at length
    rw [decodeEntries] at read
    split at read
    · next e es' first rest =>
      have taken : (bs.take id.entrySize).length = id.entrySize := by rw [List.length_take]; omega
      have left : (bs.drop id.entrySize).length = n * id.entrySize := by rw [List.length_drop]; omega
      obtain ⟨parts, spell, flat⟩ := ih left rest
      refine ⟨(bs.take id.entrySize, e) :: parts, ?_, ?_⟩
      · rw [List.forall_mem_cons]
        exact ⟨(decodeEntry_iff taken).mp first, spell⟩
      · rw [List.flatMap_cons, flat, List.take_append_drop]
    · cases read

theorem decodeEntries_none {id : TableId} {n : Nat} {bs : List Byte} (length : bs.length = n * id.entrySize)
    (foreign : ∀ parts : List (List Byte × Entry), (∀ p ∈ parts, Spells id p.1 p.2) → parts.flatMap Prod.fst ≠ bs) :
    decodeEntries id n bs = none :=
  Option.eq_none_iff_forall_ne_some.mpr fun _ read =>
    let ⟨parts, spell, flat⟩ := parts_of_decodeEntries length read
    foreign parts spell flat

/-- R202: entries of a table fill their sizes. -/
theorem flatMap_spelled_length {id : TableId} {parts : List (List Byte × Entry)} (spell : ∀ p ∈ parts, Spells id p.1 p.2) :
    (parts.flatMap Prod.fst).length = parts.length * id.entrySize := by
  induction parts with
  | nil => simp
  | cons p parts ih =>
    obtain ⟨first, rest⟩ := List.forall_mem_cons.mp spell
    rw [List.flatMap_cons, List.length_append, first.length, ih rest, List.length_cons, Nat.succ_mul, Nat.add_comm]

theorem decodeEntries_spelled {id : TableId} {n : Nat} {bs : List Byte} {parts : List (List Byte × Entry)}
    (spell : ∀ p ∈ parts, Spells id p.1 p.2) (flat : parts.flatMap Prod.fst = bs) (length : bs.length = n * id.entrySize) :
    parts.length = n ∧ decodeEntries id n bs = some (parts.map Prod.snd) := by
  have count : parts.length = n := by
    rw [← flat, flatMap_spelled_length spell] at length
    exact Nat.eq_of_mul_eq_mul_right id.entrySize_pos length
  exact ⟨count, by rw [← count, ← flat, decodeEntries_parts spell]⟩

end Sys2Proof.Machine
end

section
/-! R184 to R189: what the loader answers at a quiet part (O25, O26, O27), and how a load is abandoned (O28). -/

namespace Sys2Proof.Machine

/-! ## Factor entries -/

theorem setBit_of_getLsbD {w k : Nat} {x : BitVec w} (hk : k < w) (on : x.getLsbD k = true) : setBit x k true = x := by
  refine BitVec.eq_of_getLsbD_eq fun j _ => ?_
  rw [getLsbD_setBit_on x hk]
  by_cases h : j = k
  · subst h; simp [on]
  · simp [h]

/-- R194: a factor entry that is set stands latched already. -/
theorem FactorBits.on_of_get {b : FactorBits} {f : Factor} (set : b.get f = true) : b.on f = b := by
  cases f
  all_goals
    unfold FactorBits.get at set
    unfold FactorBits.on
    simp only at set ⊢
    rw [setBit_of_getLsbD (by omega) set]

/-- R194: what a setting can come to, whether or not its entry was set. -/
theorem setFactor_latched (f : Factor) (index : Nat) (reached : Option Nat) (s : State) :
    ∃ ns, setFactor f index reached s = s.withSetting (s.cond.factors.on f) ns := by
  rcases setFactor_spec f index reached s with ⟨set, same⟩ | ⟨-, ns, same, -⟩
  · refine ⟨s.rq.notices, same.trans ?_⟩
    rw [FactorBits.on_of_get set]
    rfl
  · exact ⟨ns, same⟩

/-! ## LOAD_BEGIN -/

theorem TableId.loadableIn_iff (t : TableId) (a : Acq) : t.loadableIn a = true ↔ Loadable t a := by
  unfold TableId.loadableIn Loadable
  cases t <;> simp [or_assoc]

theorem exec_loadBegin_quiet {s t : State} {table first count : Byte} {code : Code} {body : List Byte} (tag : Byte) (quiet : s.Quiet)
    (answer : judgeTable loadBegin [table, first, count] (countTaken s) = { state := countTaken t, code := code, body := body })
    (cannotStart : t.canStart = false) :
    exec (.loadBegin tag table first count) s = .next (t.answered tag 0x05 code body) :=
  exec_quiet (i := .loadBegin tag table first count) quiet rfl answer cannotStart

theorem loadBegin_busy {s : State} (t : TableId) (first count : Nat) (loading : s.loader.isSome = true) :
    loadBegin t first count s = Answer.plain s .loadBusy := if_pos loading

section
variable {s : State} {t : TableId} {first count : Nat}

theorem loadBegin_range (idle : s.loader = none) (outside : t.entries ≤ first ∨ 16 < count ∨ t.entries < first + count) :
    loadBegin t first count s = Answer.plain s .range := by
  unfold loadBegin
  rw [if_neg (by simp [idle])]
  exact if_pos outside

theorem loadBegin_crc (idle : s.loader = none) (inside : first < t.entries) :
    loadBegin t first 0 s = { state := s, code := .ok, body := beBytes 4 (s.crcs.get t).toNat } := by
  unfold loadBegin
  rw [if_neg (by simp [idle]), if_neg (by unfold maxLoad; omega), if_pos rfl]
  rfl

theorem loadBegin_inside (idle : s.loader = none) (some : 1 ≤ count) (few : count ≤ 16) (inside : first + count ≤ t.entries) :
    loadBegin t first count s =
      if t.lockable && s.lock.isSome then Answer.plain s .locked
      else if t.loadableIn s.acq then { state := beginLoad t first count s, code := .ok, body := [byte count] }
      else Answer.plain s .state := by
  unfold loadBegin
  rw [if_neg (by simp [idle]), if_neg (by unfold maxLoad; omega), if_neg (by omega)]
  rfl

end

/-- Settles O25: the judgements of R184 and R185 in their order. -/
theorem loadBeginAnswers : Obligations.LoadBeginAnswers := by
  intro s tag table first count quiet result
  have unchanged {code : Code} {body : List Byte}
      (answer : judgeTable loadBegin [table, first, count] (countTaken s) = { state := countTaken s, code := code, body := body }) :
      result s code body := exec_loadBegin_quiet tag quiet answer quiet.cannotStart
  refine ⟨fun beyond => unchanged (judgeTable_beyond beyond loadBegin first count _), fun id named => ?_⟩
  have judged := judgeTable_named named loadBegin first count (countTaken s)
  refine ⟨fun loading => unchanged (judged.trans (loadBegin_busy _ _ _ loading)), fun idle => ⟨fun outside => ?_,
    fun inside zero => ?_, fun atLeast atMost inside => ?_⟩⟩
  · exact unchanged (judged.trans (loadBegin_range (s := countTaken s) idle outside))
  · rw [zero] at judged
    exact unchanged (judged.trans (loadBegin_crc (s := countTaken s) idle inside))
  · rw [loadBegin_inside (s := countTaken s) idle atLeast atMost inside] at judged
    refine ⟨fun lockable locked => unchanged (judged.trans (if_pos ?_)), fun unlocked => ?_⟩
    · rw [TableId.lockable_iff id |>.mpr lockable]
      exact locked
    · have free : ¬ (id.lockable && (countTaken s).lock.isSome) = true := by
        rw [Bool.and_eq_true, TableId.lockable_iff]
        rintro ⟨lockable, locked⟩
        rcases unlocked with zone | none
        · exact lockable zone
        · replace locked : s.lock.isSome = true := locked
          rw [none] at locked
          cases locked
      rw [if_neg free] at judged
      refine ⟨fun refused => unchanged (judged.trans (if_neg (mt (TableId.loadableIn_iff id s.acq).mp refused))), fun loadable => ?_⟩
      rw [if_pos (show id.loadableIn (countTaken s).acq = true from (TableId.loadableIn_iff id s.acq).mpr loadable), byte_toNat]
        at judged
      exact exec_loadBegin_quiet (t := beginLoad id first.toNat count.toNat s) tag quiet judged quiet.cannotStart

/-! ## LOAD_DATA -/

theorem exec_loadData_quiet {s t : State} {table count : Byte} {entries : List Byte} {code : Code} {body : List Byte} (tag : Byte)
    (quiet : s.Quiet)
    (answer : judgeLoadData (table :: count :: entries) (countTaken s) = { state := countTaken t, code := code, body := body })
    (cannotStart : t.canStart = false) :
    exec (.loadData tag table count entries) s = .next (t.answered tag 0x06 code body) :=
  exec_quiet (i := .loadData tag table count entries) quiet rfl answer cannotStart

section
variable {table count : Byte} {entries : List Byte} {id : TableId}

theorem judgeLoadData_range (outside : 5 ≤ table.toNat ∨ count.toNat = 0 ∨ 4 < count.toNat) (s : State) :
    judgeLoadData (table :: count :: entries) s = Answer.plain s .range := by
  unfold judgeLoadData
  split
  · next heq =>
    cases heq
    split
    · rfl
    · next id named =>
      rcases outside with beyond | zero | many
      · rw [tableOfByte_beyond beyond] at named
        cases named
      · exact if_pos (.inl (by omega))
      · exact if_pos (.inr many)
  all_goals next heq => cases heq

theorem judgeLoadData_named (named : table.toNat = id.number) (atLeast : 1 ≤ count.toNat) (atMost : count.toNat ≤ 4) (s : State) :
    judgeLoadData (table :: count :: entries) s =
      if entries.length = count.toNat * id.entrySize then loadData id count.toNat entries s else Answer.plain s .badRequest := by
  simp only [judgeLoadData, tableOfByte_of_number named]
  exact if_neg (by omega)

end

theorem loadData_idle {s : State} (idle : s.loader = none) (t : TableId) (count : Nat) (entries : List Byte) :
    loadData t count entries s = Answer.plain s .loadNone := by
  unfold loadData
  rw [idle]
  rfl

/-- R187: abandoning a load and counting a request are done in either order. -/
theorem abandonLoad_countTaken (s : State) :
    abandonLoad (countTaken s) = countTaken (setFactor .loadAbandoned 0 none { s with loader := none }) :=
  setFactor_countTaken .loadAbandoned 0 none { s with loader := none }

theorem setFactor_cannotStart {f : Factor} {index : Nat} {reached : Option Nat} {s : State} (cannotStart : s.canStart = false) :
    (setFactor f index reached s).canStart = false := (setFactor_canStart f index reached s).trans cannotStart

/-- R186: LOAD_DATA of the loader's table, within what is expected. -/
theorem loadData_loading {s : State} {l : Load} (loading : s.loader = some l) (count : Nat) (entries : List Byte)
    (inside : l.staged.length + count ≤ l.expected) :
    loadData l.table count entries s =
      match decodeEntries l.table count entries with
      | none => { state := abandonLoad s, code := .range, body := [] }
      | some es => stageEntries l es s := by
  unfold loadData
  rw [loading]
  refine if_neg ?_
  rintro (other | many)
  · exact other rfl
  · omega

/-- R186: LOAD_DATA of another table, or of more than is expected. -/
theorem loadData_foreign {s : State} {l : Load} (loading : s.loader = some l) {t : TableId} {count : Nat} (entries : List Byte)
    (atLeast : 1 ≤ count) (foreign : t ≠ l.table ∨ l.expected < l.staged.length + count) :
    loadData t count entries s = { state := abandonLoad s, code := .range, body := [] } := by
  unfold loadData
  rw [loading]
  exact if_pos (foreign.imp_right fun many => by omega)

/-- Settles O26: the interpreter's range and length, then the loader's table, count and fields; the entries staged are those that the
bytes spell. -/
theorem loadDataStages : Obligations.LoadDataStages := by
  intro s tag table count entries quiet result
  have unchanged {code : Code}
      (answer : judgeLoadData (table :: count :: entries) (countTaken s) = Answer.plain (countTaken s) code) :
      result s code [] := exec_loadData_quiet tag quiet answer quiet.cannotStart
  refine ⟨fun outside => unchanged (judgeLoadData_range outside _), fun id named atLeast atMost => ?_⟩
  have judged := judgeLoadData_named (entries := entries) named atLeast atMost (countTaken s)
  refine ⟨fun wrong => unchanged (judged.trans (if_neg wrong)), fun length => ?_⟩
  rw [if_pos length] at judged
  refine ⟨fun idle => unchanged (judged.trans (loadData_idle (s := countTaken s) idle _ _ _)), fun l loading => ?_⟩
  have abandoned (answer : loadData id count.toNat entries (countTaken s)
      = { state := abandonLoad (countTaken s), code := .range, body := [] }) :
      result (setFactor .loadAbandoned 0 none { s with loader := none }) .range [] := by
    rw [abandonLoad_countTaken] at answer
    exact exec_loadData_quiet tag quiet (judged.trans answer) (setFactor_cannotStart quiet.cannotStart)
  refine ⟨fun foreign => abandoned (loadData_foreign (s := countTaken s) loading _ atLeast foreign), ?_⟩
  rintro rfl inside
  have loaded := loadData_loading (s := countTaken s) loading count.toNat entries inside
  refine ⟨fun unspelled => ?_, fun parts spell flat more => ?_⟩
  · rw [decodeEntries_none length unspelled] at loaded
    exact abandoned loaded
  · obtain ⟨number, read⟩ := decodeEntries_spelled spell flat length
    rw [read] at loaded
    refine exec_loadData_quiet (t := { s with loader := some (l.stage (parts.map Prod.snd) s.now) }) tag quiet
      ((judged.trans loaded).trans ?_) quiet.cannotStart
    have staged : (l.stage (parts.map Prod.snd) s.now).staged.length = l.staged.length + count.toNat := by
      simp [Load.stage, number]
    show stageEntries _ _ _ = _
    unfold stageEntries
    simp only
    rw [if_pos (show (l.stage (parts.map Prod.snd) (countTaken s).now).staged.length < _ from staged ▸ more)]
    show Answer.mk _ _ [byte (l.expected - (l.stage (parts.map Prod.snd) s.now).staged.length)] = _
    rw [staged]
    rfl

end Sys2Proof.Machine
end

section
/-! R57, R58, R188, R189: the end of a load at a quiet part (O27), and the abandoning of one (O28). -/

namespace Sys2Proof.Machine

/-! ## The end of a load -/

theorem endLoad_refused {l : Load} {s : State} (refused : ¬ Loadable l.table s.acq) :
    endLoad l s = { state := abandonLoad s, code := .state, body := [] } :=
  if_neg (mt (TableId.loadableIn_iff l.table s.acq).mp refused)

theorem checks_eq (t : TableId) : t.checks = checksOf t := by cases t <;> rfl

/-- R188: a load is INVALID with the first failure of its table's checks. -/
theorem firstFailure_invalid (t : TableId) (tables : Tables) (d : Detail) (i : Nat) :
    firstFailure tables t.checks = some (d, i) ↔ Invalid t tables d i := by
  rw [checks_eq]
  exact (firstFailure_iff tables (checksOf t)).2 d i

theorem firstFailure_valid (t : TableId) (tables : Tables) :
    firstFailure tables t.checks = none ↔ ∀ d ∈ checksOf t, ∀ i, ¬ d.FailsAt tables i := by
  rw [checks_eq]
  exact (firstFailure_iff tables (checksOf t)).1

theorem Detail.number_eq_idxOf (d : Detail) : d.number = detailOrder.idxOf d := by cases d <;> rfl

section
variable {l : Load} {s : State}

theorem endLoad_invalid (loadable : Loadable l.table s.acq) {d : Detail} {i : Nat}
    (invalid : Invalid l.table (s.tables.putEntries l.table l.first l.staged) d i) :
    endLoad l s = { state := abandonLoad s, code := .invalid, body := [byte (detailOrder.idxOf d), byte i] } := by
  unfold endLoad
  rw [if_pos ((TableId.loadableIn_iff l.table s.acq).mpr loadable)]
  simp only [(firstFailure_invalid l.table _ d i).mpr invalid, Detail.number_eq_idxOf]

theorem TableCrcs.get_put (c : TableCrcs) (t : TableId) (v : Counter) : (c.put t v).get t = v := by cases t <;> rfl

/-- R189: a load whose entries fail no check is committed, and answers the CRC of the table as committed. -/
theorem endLoad_valid (loadable : Loadable l.table s.acq)
    (valid : ∀ d ∈ checksOf l.table, ∀ i, ¬ d.FailsAt (s.tables.putEntries l.table l.first l.staged) i) :
    endLoad l s =
      { state := commitLoad l (s.tables.putEntries l.table l.first l.staged) s, code := .ok
        body := beBytes 4 ((s.tables.putEntries l.table l.first l.staged).crcOf l.table).toNat } := by
  have crc : ((commitLoad l (s.tables.putEntries l.table l.first l.staged) s).crcs.get l.table)
      = (s.tables.putEntries l.table l.first l.staged).crcOf l.table := by
    rw [(commitLoad_after l s).1.crcs]
    exact TableCrcs.get_put _ _ _
  unfold endLoad
  rw [if_pos ((TableId.loadableIn_iff l.table s.acq).mpr loadable)]
  simp only [(firstFailure_valid l.table _).mpr valid, crcBytes, crc]

end

/-- R189: a commit at a part whose requests are counted: the consumers, then TABLE.LOAD_DONE. -/
theorem commitLoad_countTaken {l : Load} {s t : State} (tables : Tables)
    (handed : handTable l.table l.first l.expected s.tables (countTaken (putTables l.table tables { s with loader := none }))
      = countTaken t) (loader : Option Load) :
    commitLoad l tables { countTaken s with loader := loader } = countTaken (setFactor .loadDone 0 none t) := by
  rw [← setFactor_countTaken, ← handed]
  rfl

/-! ## A CHANNEL load handed on -/

/-- R57: a detector that takes a committed entry only when its hit or its rearm hold ends. -/
def Detector.defers (a : Acq) (d : Detector) : Bool :=
  a == .armed && match d.machine with
    | .rearmHold | .inHit _ => true
    | .idle | .blocked => false

/-- R57, R58: a detector that is handed a committed entry. -/
def Detector.handed (a : Acq) (e : ChannelEntry) (d : Detector) : Detector :=
  if d.defers a then { d with waiting := some e }
  else if e.enabled then Detector.given e d else (Detector.given e d).block

/-- R10, R57: the lane of a detector that is handed a committed entry. -/
def Lane.handed (a : Acq) (ticking : Bool) (e : ChannelEntry) (d : Detector) (l : Lane) : Lane :=
  if d.defers a then l else Lane.follow e.enabled a ticking l

theorem Detector.defers_eq_true {a : Acq} {d : Detector} :
    d.defers a = true ↔ a = .armed ∧ (d.machine = .rearmHold ∨ d.open?.isSome = true) := by
  unfold defers Detector.open?
  cases d.machine <;> simp

theorem Detector.defers_eq_false {a : Acq} {d : Detector} (h : a ≠ .armed ∨ d.machine = .idle ∨ d.machine = .blocked) :
    d.defers a = false := by
  unfold defers
  rcases h with other | idle | blocked
  · simp [other]
  · simp [idle]
  · simp [blocked]

/-- R57, R189: one committed CHANNEL entry changes its own channel's detector and lane. -/
theorem handEntry_eq (ch : Channel) (s : State) :
    handEntry ch s = s.withChannels (upd s.dets ch (Detector.handed s.acq s.tables.channel[ch]))
      (upd s.lanes ch (Lane.handed s.acq s.ticking s.tables.channel[ch] s.dets[ch])) := by
  have applied (now : s.acq ≠ .armed ∨ s.dets[ch].machine = .idle ∨ s.dets[ch].machine = .blocked) :
      applyEntry ch s.tables.channel[ch] s = s.withChannels
        (upd s.dets ch (Detector.handed s.acq s.tables.channel[ch]))
        (upd s.lanes ch (Lane.handed s.acq s.ticking s.tables.channel[ch] s.dets[ch])) := by
    have now := Detector.defers_eq_false now
    rw [applyEntry_eq]
    congr 1
    · refine upd_congr _ _ ?_
      simp only [Detector.handed, now, Bool.false_eq_true, if_false, withEntry_eq]
    · refine upd_congr _ _ ?_
      simp only [Lane.handed, now, Bool.false_eq_true, if_false]
  have deferred (later : s.dets[ch].defers s.acq = true) :
      s.modDet ch (fun d => { d with waiting := some s.tables.channel[ch] }) = s.withChannels
        (upd s.dets ch (Detector.handed s.acq s.tables.channel[ch]))
        (upd s.lanes ch (Lane.handed s.acq s.ticking s.tables.channel[ch] s.dets[ch])) := by
    rw [upd_same_value s.lanes ch (f := Lane.handed _ _ _ _) (if_pos later),
      upd_congr s.dets ch (f := Detector.handed _ _) (g := fun d => { d with waiting := some s.tables.channel[ch] }) (if_pos later)]
    rfl
  unfold handEntry
  simp only
  split
  · next armed =>
    unfold deferEntry
    split
    · next idle => exact applied (.inr (.inl idle))
    · next blocked => exact applied (.inr (.inr blocked))
    · next h holds => exact deferred (Detector.defers_eq_true.mpr ⟨armed, .inr (by rw [Detector.open?, holds]; rfl)⟩)
    · next holds => exact deferred (Detector.defers_eq_true.mpr ⟨armed, .inl holds⟩)
  all_goals next acq => exact applied (.inl (by rw [acq]; nofun))

theorem mem_channelsOf {first count : Nat} {ch : Channel} :
    ch ∈ channelsOf first count ↔ first ≤ ch.val ∧ ch.val < first + count := by
  simp [channelsOf, mem_channels]

/-- R57, R189: a committed CHANNEL load changes the detectors and lanes of the channels whose entries it replaced. -/
theorem handChannels_eq (first count : Nat) (old : Tables) (s : State) :
    handTable .channel first count old s = s.withChannels
      (tabulate fun ch => if ch ∈ channelsOf first count then s.dets[ch].handed s.acq s.tables.channel[ch] else s.dets[ch])
      (tabulate fun ch => if ch ∈ channelsOf first count
        then s.lanes[ch].handed s.acq s.ticking s.tables.channel[ch] s.dets[ch] else s.lanes[ch]) := by
  refine foldl_ownChannel (turn := handEntry) (f := fun ch d _ => d.handed s.acq s.tables.channel[ch])
    (g := fun ch d l => l.handed s.acq s.ticking s.tables.channel[ch] d) ⟨fun ch dets lanes => ?_⟩ _
    (channels_nodup.filter _) s.dets s.lanes
  rw [handEntry_eq]
  rfl

section
variable {a : Acq} {e : ChannelEntry} {d : Detector} {l : Lane} {ticking : Bool}

/-- R57, R58: what applying an entry changes of a detector but its state. -/
theorem Detector.handed_fields (now : d.defers a = false) :
    (d.handed a e).active = e ∧ (d.handed a e).waiting = none ∧ (d.handed a e).thrDb = thrDbOf e d.noise ∧
      (d.handed a e).thrCode = thrCodeOf (thrDbOf e d.noise) e.lsbNv ∧ (d.handed a e).noise = d.noise ∧
      (d.handed a e).rearm = d.rearm ∧ (d.handed a e).contRun = d.contRun ∧ (d.handed a e).hitsOpened = d.hitsOpened := by
  simp only [handed, now, Bool.false_eq_true, if_false]
  split
  · exact ⟨rfl, rfl, rfl, rfl, rfl, rfl, rfl, rfl⟩
  · unfold Detector.block
    split <;> exact ⟨rfl, rfl, rfl, rfl, rfl, rfl, rfl, rfl⟩

theorem Detector.handed_enabled (now : d.defers a = false) (on : e.enabled = true) : (d.handed a e).machine = d.machine := by
  simp only [handed, now, on, Bool.false_eq_true, if_false, if_true]
  rfl

theorem Detector.handed_disabled (now : d.defers a = false) (off : e.enabled = false) (closed : d.open? = none) :
    (d.handed a e).machine = .blocked := by
  simp only [handed, now, off, Bool.false_eq_true, if_false]
  rw [block_closed]
  intro h opened
  unfold Detector.open? at closed
  rw [show d.machine = .inHit h from opened] at closed
  cases closed

theorem Lane.handed_disabled (now : d.defers a = false) (off : e.enabled = false) : l.handed a ticking e d = l.toOff := by
  simp only [handed, now, off, Lane.follow, Bool.false_eq_true, if_false]

theorem Lane.handed_syncs (now : d.defers a = false) (on : e.enabled = true) (running : ticking = true) (acq : a ≠ .off)
    (state : l.state = .off) : l.handed a ticking e d = l.toSyncing := by
  simp [handed, now, on, Lane.follow, running, acq, state]

theorem Lane.handed_stays (now : d.defers a = false) (on : e.enabled = true) (stays : ticking = false ∨ a = .off ∨ l.state ≠ .off) :
    l.handed a ticking e d = l := by
  have notSyncing : ¬ (ticking && a != .off && l.state == .off) = true := by
    rw [Bool.and_eq_true, Bool.and_eq_true, bne_iff_ne, beq_iff_eq]
    rintro ⟨⟨running, acq⟩, state⟩
    rcases stays with stopped | off | other
    · rw [stopped] at running
      cases running
    · exact acq off
    · exact other state
  simp only [handed, now, on, Lane.follow, Bool.false_eq_true, if_false, if_true, if_neg notSyncing]

end

theorem ticking_eq_false {s : State} (other : s.synth ≠ .locked) : s.ticking = false := by
  unfold State.ticking
  exact beq_eq_false_iff_ne.mpr other

/-! ## LOAD_DATA that ends a load -/

/-- R186: staged entries that make the load whole end it. -/
theorem stageEntries_ends {l : Load} {es : List Entry} {s : State} (whole : l.staged.length + es.length = l.expected) :
    stageEntries l es s = endLoad (l.stage es s.now) { s with loader := some (l.stage es s.now) } := by
  unfold stageEntries
  exact if_neg (by simp [Load.stage, whole])

theorem handSetup_eq (first count : Nat) (old : Tables) (s : State) :
    handTable .setup first count old s =
      if s.acq = .standby ∧ s.tables.setup.intervalK ≠ old.setup.intervalK then retime s else s := rfl

/-- R126: the interval timer after a commit that gave it a period. -/
theorem retime_some {s : State} {k : Nat} (period : s.tables.setup.intervalK = some k) :
    retime s = { s with timer := { s.timer with period := some (2 ^ k * 2000), ticks := 0, eventsCompleted := 0
                                                figures := tabulate fun _ => IntervalFigures.reset } } := by
  unfold retime startTimer
  rw [period]
  rfl

theorem retime_none {s : State} (stopped : s.tables.setup.intervalK = none) :
    retime s = { s with timer := { s.timer with period := none, ticks := 0 } } := by
  unfold retime stopTimer
  rw [stopped]
  rfl

/-- Settles O27: the acquisition state, the checks of R188, then the commit and what each table's consumers make of it. -/
theorem loadDataCommits : Obligations.LoadDataCommits := by
  intro s tag table count entries l parts quiet named atLeast atMost number spell flat loading whole result tables crcs committed crc
  have length : entries.length = count.toNat * l.table.entrySize := by rw [← flat, flatMap_spelled_length spell, number]
  have staged : l.staged.length + (parts.map Prod.snd).length = l.expected := by rw [List.length_map, number, whole]
  have judged : judgeLoadData (table :: count :: entries) (countTaken s)
      = endLoad (l.stage (parts.map Prod.snd) s.now)
          { countTaken s with loader := some (l.stage (parts.map Prod.snd) s.now) } := by
    rw [judgeLoadData_named named atLeast atMost, if_pos length, loadData_loading (s := countTaken s) loading _ _ whole.le,
      (decodeEntries_spelled spell flat length).2]
    exact stageEntries_ends staged
  have abandoned {code : Code} {body : List Byte} (answer : judgeLoadData (table :: count :: entries) (countTaken s)
      = { state := abandonLoad (countTaken s), code := code, body := body }) :
      result (setFactor .loadAbandoned 0 none { s with loader := none }) code body := by
    rw [abandonLoad_countTaken] at answer
    exact exec_loadData_quiet tag quiet answer (setFactor_cannotStart quiet.cannotStart)
  refine ⟨fun refused => abandoned (judged.trans (endLoad_refused refused)), fun loadable => ⟨fun d i invalid =>
    abandoned (judged.trans (endLoad_invalid (l := l.stage (parts.map Prod.snd) s.now)
      (s := { countTaken s with loader := some (l.stage (parts.map Prod.snd) s.now) }) loadable invalid)), fun valid => ?_⟩⟩
  have commit {t : State} (handed : handTable l.table l.first l.expected s.tables (countTaken committed) = countTaken t)
      (same : t.canStart = s.canStart) : result (setFactor .loadDone 0 none t) .ok crc := by
    have committing := commitLoad_countTaken (l := l.stage (parts.map Prod.snd) s.now) (s := s) (t := t) tables handed
      (some (l.stage (parts.map Prod.snd) s.now))
    have answer := (judged.trans (endLoad_valid loadable valid)).trans (congrArg (fun u => Answer.mk u .ok crc) committing)
    exact exec_loadData_quiet tag quiet answer (setFactor_cannotStart (same.trans quiet.cannotStart))
  refine ⟨fun table => commit (t := committed) ?_ rfl, fun setup => ⟨fun same => commit (t := committed) ?_ rfl,
    fun standby changed => ⟨fun k period => commit ?_ rfl, fun stopped => commit ?_ rfl⟩⟩, fun channel => ?_⟩
  · rcases table with pair | filter | zone
    · rw [pair]; rfl
    · rw [filter]; rfl
    · rw [zone]; rfl
  · rw [setup, handSetup_eq]
    refine if_neg ?_
    rintro ⟨standby, changed⟩
    rcases same with other | same
    · exact other standby
    · exact changed same
  · rw [setup, handSetup_eq]
    exact (if_pos ⟨standby, changed⟩).trans (retime_some (s := countTaken committed) period)
  · rw [setup, handSetup_eq]
    exact (if_pos ⟨standby, changed⟩).trans (retime_none (s := countTaken committed) stopped)
  · intro replaced
    have ran := commit (t := committed.withChannels _ _) (by rw [channel, handChannels_eq]; rfl) rfl
    obtain ⟨ns, latched⟩ := setFactor_latched .loadDone 0 none (committed.withChannels
      (tabulate fun ch => if ch ∈ channelsOf l.first l.expected then s.dets[ch].handed s.acq tables.channel[ch] else s.dets[ch])
      (tabulate fun ch => if ch ∈ channelsOf l.first l.expected
        then s.lanes[ch].handed s.acq s.ticking tables.channel[ch] s.dets[ch] else s.lanes[ch]))
    refine ⟨_, ran.trans (congrArg (fun u : State => Host.Outcome.next (u.answered tag 0x06 .ok crc)) latched), rfl,
      fun ch kept => ?_, fun ch taken => ?_⟩
    · have other : ¬ ch ∈ channelsOf l.first l.expected := mt mem_channelsOf.mp kept
      simp only [State.withSetting, State.withChannels, tabulate_get, if_neg other, and_self]
    · have mine : ch ∈ channelsOf l.first l.expected := mem_channelsOf.mpr taken
      simp only [State.withSetting, State.withChannels, tabulate_get, if_pos mine]
      refine ⟨fun now => ?_, fun armed holds => ?_⟩
      · have now := Detector.defers_eq_false now
        obtain ⟨active, waiting, thrDb, thrCode, noise, rearm, contRun, opened⟩ :=
          Detector.handed_fields (e := tables.channel[ch]) now
        exact ⟨active, waiting, thrDb, thrDb ▸ thrCode, noise, rearm, contRun, opened,
          fun off => ⟨Lane.handed_disabled now off, Detector.handed_disabled now off⟩,
          fun on => ⟨Detector.handed_enabled now on,
            fun locked acq state => Lane.handed_syncs now on (by rw [State.ticking, locked]; rfl) acq state,
            fun stays => Lane.handed_stays now on (stays.imp_left ticking_eq_false)⟩⟩
      · have later := Detector.defers_eq_true.mpr ⟨armed, holds⟩
        exact ⟨if_pos later, if_pos later⟩

/-! ## Loads abandoned -/

theorem exec_loadAbort_quiet {s t : State} {code : Code} (tag : Byte) (quiet : s.Quiet)
    (answer : loadAbort (countTaken s) = Answer.plain (countTaken t) code) (cannotStart : t.canStart = false) :
    exec (.loadAbort tag) s = .next (t.answered tag 0x07 code []) :=
  exec_quiet (i := .loadAbort tag) quiet rfl (show judgeEmpty loadAbort [] (countTaken s) = _ from answer) cannotStart

/-- R1, R187: the timer that runs to a moment, where the lock timer does not end before it and the flush timer does not run. -/
theorem passLink_toLoad {s : State} {n d : Nat} (load : s.loadDeadline = some d) (lock : ∀ e, s.synth = .locking e → d ≤ e)
    (cannotStart : s.canStart = false) : passLink n d s = setNow d s := by
  refine passLink_of_later fun timer e deadline => ?_
  cases timer with
  | lock =>
    unfold LinkTimer.deadline State.lockDeadline at deadline
    simp only at deadline
    split at deadline
    · next e' locking =>
      obtain rfl := Option.some.inj deadline
      exact lock _ locking
    all_goals cases deadline
  | load => exact (Option.some.inj (load.symm.trans deadline)).le
  | flush =>
    replace deadline : s.flushDeadline = some e := deadline
    rw [State.flushDeadline, cannotStart] at deadline
    cases deadline

/-- Settles O28: LOAD_ABORT and the end of the idle second both abandon a load; without one the first answers ALREADY and the second does
nothing. -/
theorem loadsAreAbandoned : Obligations.LoadsAreAbandoned := by
  intro s
  refine ⟨fun tag quiet => ⟨fun loading => ?_, fun idle => ?_⟩, fun l rest loading lock => ?_, fun idle => ?_⟩
  · refine exec_loadAbort_quiet tag quiet ?_ (setFactor_cannotStart quiet.cannotStart)
    rw [← abandonLoad_countTaken]
    exact if_pos loading
  · exact exec_loadAbort_quiet tag quiet (if_neg (by simp [countTaken, idle])) quiet.cannotStart
  · have deadline : LinkTimer.load.deadline s = some l.expiry := by
      show s.loader.map Load.expiry = _
      rw [loading]
      rfl
    show Host.Outcome.next (takeTimer .load s) = _
    have after : takeTimer .load s = expireTimer .load l.expiry (setNow l.expiry s) := by
      unfold takeTimer
      simp only [deadline, passLink_toLoad deadline lock rest.cannotStart]
      exact if_pos deadline
    rw [after]
    refine congrArg Host.Outcome.next ((finish_atRest ⟨?_, ?_⟩).trans ?_)
    · exact (abandonLoad_upkeep _).inbound.trans rest.inbound
    · exact setFactor_cannotStart rest.cannotStart
    · show setFactor .loadAbandoned 0 none { setNow l.expiry (setNow l.expiry s) with loader := none } = _
      simp only [setNow, max_assoc, max_self]
  · show Host.Outcome.next (takeTimer .load s) = _
    have deadline : LinkTimer.load.deadline s = none := by
      show s.loader.map Load.expiry = _
      rw [idle]
      rfl
    unfold takeTimer
    rw [deadline]

end Sys2Proof.Machine
end

section
/-! R121, R123, R165 to R170, R177 to R180: phase and peak (O34), SOFT_RESET (O35), and the frames of the link port (O8, O36, O37). -/

namespace Sys2Proof.Machine

/-! ## Settings, case by case -/

section
variable {f : Factor} {index : Nat} {reached : Option Nat} {s : State}

/-- R194: a setting of a set entry has no effect. -/
theorem setFactor_of_set (set : s.cond.factors.get f = true) : setFactor f index reached s = s := if_pos set

/-- R197, R198: whether an edge of a factor queues a notice. -/
def State.noticesEdge (s : State) (f : Factor) : Bool :=
  s.cond.notifies f && !(s.rq.notices.any fun w => w.factor == f) && decide (s.rq.notices.length < noticeCapacity)

theorem State.noticesEdge_iff : s.noticesEdge f = true ↔
    (s.cond.enables.get f = true ∧ s.cond.groupEnables.getLsbD f.group.number = true) ∧
      (∀ n ∈ s.rq.notices, n.factor ≠ f) ∧ s.rq.notices.length < 16 := by
  unfold State.noticesEdge Conditions.notifies noticeCapacity
  simp only [Bool.and_eq_true, Bool.not_eq_true', List.any_eq_false, beq_iff_eq, decide_eq_true_eq, and_assoc]

/-- R194, R197, R198: a setting of a clear entry. -/
theorem setFactor_of_clear (clear : s.cond.factors.get f = false) : setFactor f index reached s =
    if s.noticesEdge f then
      s.withSetting (s.cond.factors.on f) (s.rq.notices ++ [{ factor := f, index := index, state := reached, time := s.tt }])
    else s.withSetting (s.cond.factors.on f) s.rq.notices := by
  unfold setFactor
  rw [if_neg (by simp [clear])]
  simp only [show (latchFactor f s).cond.notifies f = s.cond.notifies f from rfl]
  unfold State.noticesEdge
  cases s.cond.notifies f with
  | false => rfl
  | true =>
    simp only [if_true, offerNotice, Bool.true_and]
    cases waits : s.rq.notices.any fun w => w.factor == f with
    | true => rw [if_pos (show ((latchFactor f s).rq.notices.any fun w => w.factor == f) = true from waits)]; rfl
    | false =>
      rw [if_neg (show ¬ ((latchFactor f s).rq.notices.any fun w => w.factor == f) = true from by simp [latchFactor, waits])]
      by_cases room : s.rq.notices.length < noticeCapacity
      · rw [if_neg (show ¬ noticeCapacity ≤ (latchFactor f s).rq.notices.length from Nat.not_le.mpr room)]
        simp [room, latchFactor, State.withSetting]
      · rw [if_pos (show noticeCapacity ≤ (latchFactor f s).rq.notices.length from Nat.not_lt.mp room)]
        simp [room, latchFactor, State.withSetting]

end

/-! ## Phase and peak -/

theorem phaseOf_number {b : Byte} {p : Phase} (named : b.toNat = p.number) : phaseOf b = some p := by
  unfold phaseOf
  rw [named]
  cases p <;> rfl

theorem phaseOf_beyond {b : Byte} (beyond : 3 ≤ b.toNat) : phaseOf b = none := by
  obtain ⟨k, hk⟩ := Nat.exists_eq_add_of_le' beyond
  unfold phaseOf
  rw [hk]
  rfl

theorem exec_setPhase_quiet {s t : State} {phase : Byte} {code : Code} (tag : Byte) (quiet : s.Quiet)
    (answer : judgePhase [phase] (countTaken s) = Answer.plain (countTaken t) code) (cannotStart : t.canStart = false) :
    exec (.setPhase tag phase) s = .next (t.answered tag 0x0E code []) :=
  exec_quiet (i := .setPhase tag phase) quiet rfl answer cannotStart

theorem judgePhase_named {b : Byte} {p : Phase} (named : b.toNat = p.number) (s : State) : judgePhase [b] s = setPhase p s := by
  simp only [judgePhase, phaseOf_number named]

theorem setPhase_other {p : Phase} {s : State} (other : s.hist.phase ≠ p) :
    setPhase p s = Answer.plain { s with hist := s.hist.setPhase p } .ok := if_neg other

/-- Settles O34: SET_PHASE by the phase it names and the phase in force, and RESET_LOAD_HISTORY. -/
theorem phaseAndPeakRequestsAnswer : Obligations.PhaseAndPeakRequestsAnswer := by
  intro s tag phase quiet result
  refine ⟨fun beyond => ?_, fun p named => ⟨fun same => ?_, fun other notHold => ?_, fun other hold => ?_⟩, ?_⟩
  · refine exec_setPhase_quiet tag quiet ?_ quiet.cannotStart
    simp only [judgePhase, phaseOf_beyond beyond]
  · exact exec_setPhase_quiet tag quiet ((judgePhase_named named _).trans (if_pos same)) quiet.cannotStart
  · have answer := (judgePhase_named named _).trans (setPhase_other (s := countTaken s) other)
    rw [LoadHistory.setPhase, if_neg (fun h => notHold h.1)] at answer
    exact exec_setPhase_quiet (t := { s with hist := { s.hist with phase := p } }) tag quiet answer quiet.cannotStart
  · have answer := (judgePhase_named named _).trans (setPhase_other (s := countTaken s) other)
    rw [LoadHistory.setPhase, if_pos ⟨hold, hold ▸ other⟩] at answer
    exact exec_setPhase_quiet (t := { s with hist := { s.hist with phase := p, holdCounts := tabulate fun _ => 0 } }) tag quiet
      answer quiet.cannotStart
  · exact exec_quiet (i := .resetLoadHistory tag) (t := { s with hist := { s.hist with pMax := s.hist.pressure } }) quiet rfl rfl
      quiet.cannotStart

/-! ## SOFT_RESET -/

/-- Settles O35: the interpreter resets the part and then leaves its OK in the emptied Response Queue. -/
theorem softResetAnswers : Obligations.SoftResetAnswers := by
  intro s tag quiet
  have taken : takeRequest { kind := 0x10, tag := tag, args := [] } s
      = respond { kind := 0x10, tag := tag, args := [] } (Answer.plain (softReset (countTaken s)) .ok) := rfl
  have cannotStart : (takeRequest { kind := 0x10, tag := tag, args := [] } s).canStart = false := by
    rw [taken]
    exact quiet.cannotStart
  rw [exec_request (i := .softReset tag) rfl, submit_quiet quiet _ cannotStart, taken]
  rfl

/-! ## Bad frames -/

theorem badFrame_atRest {s : State} (rest : s.AtRest) : (badFrame s).AtRest :=
  ⟨(badFrame_upkeep s).inbound.trans rest.inbound, setFactor_cannotStart rest.cannotStart⟩

theorem exec_badFrame {s : State} {wire : List Byte} (rest : s.AtRest) (bad : goodRequest wire = none) :
    exec (.downlinkFrameEnd wire) s = .next (badFrame s) := by
  show Host.Outcome.next (finish (endFrame wire s)) = _
  unfold endFrame
  rw [bad, finish_atRest (badFrame_atRest rest)]

/-- R200: what is read of an escaped body that is cut short is the front of the body. -/
theorem unescape_take_escape {bs : List Byte} {n : Nat} (short : n < (escapeBytes bs).length) :
    ∃ k < bs.length, (unescapeBytes ((escapeBytes bs).take n)).bytes = bs.take k := by
  induction bs generalizing n with
  | nil => exact absurd short (Nat.not_lt_zero n)
  | cons b bs ih =>
    rw [escapeBytes_cons] at short ⊢
    cases n with
    | zero => exact ⟨0, Nat.succ_pos _, rfl⟩
    | succ n =>
      by_cases marked : b = startMarker ∨ b = escapeByte
      · rw [if_pos marked] at short ⊢
        cases n with
        | zero => exact ⟨0, Nat.succ_pos _, rfl⟩
        | succ n =>
          obtain ⟨k, inside, read⟩ := ih (n := n) (by simpa using short)
          refine ⟨k + 1, Nat.succ_lt_succ inside, ?_⟩
          rw [List.take_succ_cons, ← read]
          show (unescapeBytes (escapeByte :: (b ^^^ 0x40) :: (escapeBytes bs).take n)).bytes = _
          rw [unescapeBytes, if_neg (by decide), if_pos rfl]
          rcases marked with rfl | rfl
          · rfl
          · rfl
      · rw [if_neg marked] at short ⊢
        obtain ⟨k, inside, read⟩ := ih (n := n) (by simpa using short)
        refine ⟨k + 1, Nat.succ_lt_succ inside, ?_⟩
        rw [List.take_succ_cons, ← read]
        push Not at marked
        show (unescapeBytes (b :: (escapeBytes bs).take n)).bytes = _
        rw [unescapeBytes.eq_def]
        simp only [marked.1, marked.2, if_false]

/-- R167, R200: a frame that ends early spells no request. -/
theorem frameOf_take {kind : Byte} {payload : List Byte} {check n : Nat} (fits : payload.length < 65536)
    (short : n < (escapeBytes (checkedBytes kind payload ++ beBytes 2 check)).length) :
    frameOf ((escapeBytes (checkedBytes kind payload ++ beBytes 2 check)).take n) = none := by
  obtain ⟨k, inside, read⟩ := unescape_take_escape short
  unfold frameOf
  rw [read]
  have whole : checkedBytes kind payload ++ beBytes 2 check
      = kind :: BitVec.ofNat 8 (payload.length / 256 ^ 1) :: BitVec.ofNat 8 (payload.length / 256 ^ 0)
          :: (payload ++ beBytes 2 check) := rfl
  rw [whole] at inside ⊢
  match k with
  | 0 | 1 | 2 => rfl
  | k + 3 =>
    simp only [List.take_succ_cons]
    have len : (BitVec.ofNat 8 (payload.length / 256 ^ 1)).toNat * 256 + (BitVec.ofNat 8 (payload.length / 256 ^ 0)).toNat
        = payload.length := by simp only [BitVec.toNat_ofNat]; omega
    rw [len, if_neg]
    simp only [List.length_cons, List.length_append, beBytes_length] at inside
    rw [List.length_take]
    omega

theorem isRequestKind_iff (k : Byte) : isRequestKind k = true ↔ 1 ≤ k.toNat ∧ k.toNat ≤ 0x10 := decide_eq_true_iff

/-- R167: a whole frame is good by its payload's length, its kind and its check. -/
theorem goodRequest_escapeBytes {kind : Byte} {payload : List Byte} {check : Nat} (fits : payload.length < 65536)
    (checkFits : check < 65536) : goodRequest (escapeBytes (checkedBytes kind payload ++ beBytes 2 check)) =
      match payload with
      | [] => none
      | tag :: args =>
        if payload.length ≤ maxRequestPayload ∧ isRequestKind kind ∧ check = crc16 (checkedBytes kind payload) then
          some { kind := kind, tag := tag, args := args }
        else none := by
  unfold goodRequest
  rw [frameOf_escapeBytes kind payload check fits checkFits]
  cases payload <;> rfl

/-- Settles O36: a bad frame is one setting of LINK.FRAME_ERROR after its count; and the frames that are bad, cause by cause. -/
theorem badFramesAreCounted : Obligations.BadFramesAreCounted := by
  refine ⟨?_, fun kind payload check fits checkFits => ⟨?_, ?_⟩⟩
  · intro s wire rest bad counted latched notice enabled queues result
    have ran : result (setFactor .frameError 0 none counted) := exec_badFrame rest bad
    have edge : counted.noticesEdge .frameError = true ↔ enabled ∧ queues := State.noticesEdge_iff
    refine ⟨fun set => ?_, fun clear quietly => ?_, fun clear on room => ?_⟩
    · rwa [setFactor_of_set (s := counted) set] at ran
    · rwa [setFactor_of_clear (s := counted) clear, if_neg (mt edge.mp quietly)] at ran
    · rwa [setFactor_of_clear (s := counted) clear, if_pos (edge.mpr ⟨on, room⟩)] at ran
  · intro bad
    rw [goodRequest_escapeBytes fits checkFits]
    cases payload with
    | nil => rfl
    | cons tag args =>
      refine if_neg ?_
      rintro ⟨length, isKind, checked⟩
      obtain ⟨atLeast, atMost⟩ := (isRequestKind_iff kind).mp isKind
      rcases bad with empty | long | zero | beyond | wrong
      · cases empty
      · exact absurd length (Nat.not_le.mpr long)
      · subst zero
        exact absurd atLeast (by decide)
      · omega
      · exact wrong checked
  · intro n short
    unfold goodRequest
    rw [frameOf_take fits short]

/-! ## Requests at a full Response Queue -/

/-- R169: with no room for a response, and no frame start to make room, the interpreter takes no request. -/
theorem pump_full {s : State} (cannotStart : s.canStart = false) (full : 4 ≤ s.rq.responses.length) (n : Nat) : pump n s = s := by
  cases n with
  | zero => exact schedule_idle cannotStart
  | succ n =>
    unfold pump
    simp only [schedule_idle cannotStart]
    split
    · rfl
    · exact if_neg (Nat.not_lt.mpr full)

/-- R168: what a good request comes to where it cannot be taken. -/
theorem submit_full {s : State} (r : Request) (cannotStart : s.canStart = false) (full : 4 ≤ s.rq.responses.length) :
    (s.link.inbound.length < 8 → submit r s = { s with link := { s.link with inbound := s.link.inbound ++ [r] } }) ∧
      (8 ≤ s.link.inbound.length →
        submit r s = setFactor .requestDropped 0 none { s with link := { s.link with dropped := s.link.dropped + 1 } }) := by
  unfold submit finish offerRequest
  constructor
  · intro room
    rw [if_pos (show s.link.inbound.length < inboundCapacity from room)]
    exact pump_full (s := { s with link := { s.link with inbound := s.link.inbound ++ [r] } }) cannotStart full _
  · intro none
    rw [if_neg (show ¬ s.link.inbound.length < inboundCapacity from Nat.not_lt.mpr none)]
    have responses := (setFactor_booked .requestDropped 0 Option.none
      { s with link := { s.link with dropped := s.link.dropped + 1 } }).responses
    exact pump_full (setFactor_cannotStart (s := { s with link := { s.link with dropped := s.link.dropped + 1 } }) cannotStart)
      (full.trans_eq (congrArg List.length responses.symm)) _

/-- Settles O37. -/
theorem requestsWaitOrAreDropped : Obligations.RequestsWaitOrAreDropped := by
  intro s i r requested cannotStart full
  rw [exec_request requested]
  obtain ⟨waits, dropped⟩ := submit_full r cannotStart full
  exact ⟨fun room => congrArg _ (waits room), fun none => congrArg _ (dropped none)⟩

end Sys2Proof.Machine
end

section
/-! R167 to R170, R172, R200: a good frame is read as its request, and what the interpreter leaves of the link when it takes one (O8). -/

namespace Sys2Proof.Machine

/-! ## What judging a request leaves of the link -/

/-- Work that neither starts a frame, nor makes room for one, nor lets a request wait. -/
structure Unsent (s t : State) : Prop where
  inbound : s.link.inbound = [] → t.link.inbound = []
  canStart : t.canStart = s.canStart

theorem Unsent.refl (s : State) : Unsent s s := ⟨id, rfl⟩

theorem Unsent.trans {s t u : State} (h : Unsent s t) (k : Unsent t u) : Unsent s u :=
  ⟨k.inbound ∘ h.inbound, k.canStart.trans h.canStart⟩

theorem Unsent.of_same {s t : State} (link : t.link = s.link) (rq : t.rq = s.rq) : Unsent s t :=
  ⟨fun empty => by rw [link]; exact empty, by unfold State.canStart; rw [rq]⟩

theorem Routine.unsent {s t : State} (h : Routine s t) : Unsent s t := by
  have tx : t.rq.tx = s.rq.tx := congrArg Fixed.tx h.fixed
  have ready : t.rq.ready = s.rq.ready := congrArg Fixed.ready h.fixed
  have link : t.link = s.link := congrArg Fixed.link h.fixed
  exact ⟨fun empty => by rw [link]; exact empty, by unfold State.canStart; rw [tx, ready]⟩

theorem enterOff_unsent (reason : OffReason) (s : State) : Unsent s (enterOff reason s) := by
  have left : Unsent s (leaveForOff s) := by
    unfold leaveForOff
    split <;> exact .of_same rfl rfl
  have closed := (Routine.foldl (fun u ch => detectorOff_routine reason ch u) channels (leaveForOff s)).unsent
  have dissolved := (dissolves_routine reason (channels.foldl (fun u ch => detectorOff reason ch u) (leaveForOff s))).unsent
  exact ((left.trans closed).trans dissolved).trans (.of_same rfl rfl)

theorem enterStandby_unsent (s : State) : Unsent s (enterStandby s) := by
  rw [enterStandby_eq]
  refine Unsent.trans ?_ (setFactor_routine _ _ _ _).unsent
  exact .of_same rfl rfl

theorem checkDrain_unsent (s : State) : Unsent s (checkDrain s) := by
  unfold checkDrain
  split
  · split
    · unfold reachDrainTarget
      split
      · exact enterStandby_unsent s
      · exact (enterOff_unsent .off s).trans (reachState_routine _).unsent
    · exact .refl s
  all_goals exact .refl s

theorem enterDraining_unsent (target : DrainTarget) (s : State) : Unsent s (enterDraining target s) := by
  rw [enterDraining_eq]
  refine Unsent.trans ?_ (checkDrain_unsent _)
  exact .of_same rfl rfl

theorem enterStarting_unsent (target : StartTarget) (s : State) : Unsent s (enterStarting target s) := by
  rw [enterStarting_eq]
  exact .of_same rfl rfl

theorem goOff_unsent (s : State) : Unsent s (goOff s).state := by
  unfold goOff
  split <;> rw [Answer.controlled_state]
  · exact .refl s
  · exact (enterOff_unsent .off s).trans (reachState_routine _).unsent
  · exact (enterOff_unsent .off s).trans (reachState_routine _).unsent
  · exact (enterOff_unsent .off s).trans (reachState_routine _).unsent
  · exact enterDraining_unsent .off s
  · exact .of_same rfl rfl
  · exact .refl s

theorem goStandby_unsent (s : State) : Unsent s (goStandby s).state := by
  unfold goStandby
  split <;> rw [Answer.controlled_state]
  · exact enterStarting_unsent .standby s
  · exact .refl s
  · exact .refl s
  · exact .refl s
  · exact .refl s
  · exact enterDraining_unsent .standby s
  · exact .refl s
  · exact .refl s

theorem goArmed_unsent (s : State) : Unsent s (goArmed s).state := by
  unfold goArmed
  split
  · split <;> rw [Answer.controlled_state]
    · exact enterStarting_unsent .armed s
    · exact .refl s
    · exact .refl s
    · exact .of_same rfl rfl
    · exact .refl s
    · exact .refl s
    · exact .refl s
  · exact .refl s

theorem judgeGo_unsent (args : List Byte) (s : State) : Unsent s (judgeGo args s).state := by
  unfold judgeGo
  split
  · split
    · exact goOff_unsent s
    · exact goStandby_unsent s
    · exact goArmed_unsent s
    · exact .refl s
  · exact .refl s

theorem judgeAbort_unsent (args : List Byte) (s : State) : Unsent s (judgeAbort args s).state := by
  cases args with
  | nil => exact (enterOff_unsent .abort s).trans (raise_routine .aborted _).unsent
  | cons b bs => exact .refl s

theorem judgeEmpty_unsent {f : State → Answer} {args : List Byte} {s : State} (h : Unsent s (f s).state) :
    Unsent s (judgeEmpty f args s).state := by
  cases args with
  | nil => exact h
  | cons b bs => exact .refl s

theorem judgeTable_unsent {f : TableId → Nat → Nat → State → Answer} (args : List Byte) {s : State}
    (h : ∀ t first count, Unsent s (f t first count s).state) : Unsent s (judgeTable f args s).state := by
  unfold judgeTable
  split
  · split
    · exact h _ _ _
    · exact .refl s
  · exact .refl s

theorem loadBegin_unsent (t : TableId) (first count : Nat) (s : State) : Unsent s (loadBegin t first count s).state := by
  unfold loadBegin
  split
  · exact .refl s
  · split
    · exact .refl s
    · split
      · exact .refl s
      · split
        · exact .refl s
        · split
          · exact .of_same rfl rfl
          · exact .refl s

theorem readTable_unsent (t : TableId) (first count : Nat) (s : State) : Unsent s (readTable t first count s).state := by
  unfold readTable
  split <;> exact .refl s

theorem abandonLoad_unsent (s : State) : Unsent s (abandonLoad s) := by
  refine Unsent.trans ?_ (raise_routine .loadAbandoned _).unsent
  exact .of_same rfl rfl

theorem handTable_unsent (t : TableId) (first count : Nat) (old : Tables) (s : State) :
    Unsent s (handTable t first count old s) := by
  unfold handTable
  split
  · exact (Routine.foldl (fun u ch => handEntry_routine ch u) _ s).unsent
  · split
    · unfold retime
      rw [startTimer_eq]
      split <;> exact .of_same rfl rfl
    · exact .refl s
  all_goals exact .refl s

theorem endLoad_unsent (l : Load) (s : State) : Unsent s (endLoad l s).state := by
  unfold endLoad
  simp only
  split
  · split
    · exact abandonLoad_unsent s
    · refine Unsent.trans ?_ (raise_routine .loadDone _).unsent
      refine Unsent.trans ?_ (handTable_unsent _ _ _ _ _)
      exact .of_same rfl rfl
  · exact abandonLoad_unsent s

theorem loadData_unsent (t : TableId) (count : Nat) (entries : List Byte) (s : State) :
    Unsent s (loadData t count entries s).state := by
  unfold loadData
  split
  · exact .refl s
  · split
    · exact abandonLoad_unsent s
    · split
      · exact abandonLoad_unsent s
      · unfold stageEntries
        simp only
        split
        · exact .of_same rfl rfl
        · exact Unsent.trans (.of_same rfl rfl) (endLoad_unsent _ _)

theorem judgeLoadData_unsent (args : List Byte) (s : State) : Unsent s (judgeLoadData args s).state := by
  unfold judgeLoadData
  split
  · split
    · exact .refl s
    · split
      · exact .refl s
      · split
        · exact loadData_unsent _ _ _ s
        · exact .refl s
  all_goals exact .refl s

theorem loadAbort_unsent (s : State) : Unsent s (loadAbort s).state := by
  unfold loadAbort
  split
  · exact abandonLoad_unsent s
  · exact .refl s

theorem lockChanged_unsent (lock : Option Counter) (s : State) : Unsent s (raise .lockChanged { s with lock := lock }) := by
  refine Unsent.trans ?_ (raise_routine .lockChanged _).unsent
  exact .of_same rfl rfl

theorem lockTest_unsent (s : State) : Unsent s (lockTest s).state := by
  unfold lockTest
  split
  · exact .refl s
  · split
    · exact .refl s
    · exact lockChanged_unsent _ s

theorem unlockTest_unsent (s : State) : Unsent s (unlockTest s).state := by
  unfold unlockTest
  split
  · exact .refl s
  · split
    · exact lockChanged_unsent _ s
    · exact .refl s

theorem judgeStatus_unsent (args : List Byte) (s : State) : Unsent s (judgeStatus args s).state := by
  unfold judgeStatus statusRead
  split
  · split <;> exact .refl s
  · exact .refl s

theorem judgeClear_unsent (args : List Byte) (s : State) : Unsent s (judgeClear args s).state := by
  unfold judgeClear
  split
  · split
    · exact .of_same rfl rfl
    · exact .refl s
  · exact .refl s

theorem judgeEnables_unsent (args : List Byte) (s : State) : Unsent s (judgeEnables args s).state := by
  unfold judgeEnables rangeEnables
  split
  · split
    · split
      · exact .refl s
      · split
        · exact .refl s
        · split
          · exact .of_same rfl rfl
          · exact .refl s
    · exact .refl s
  all_goals exact .refl s

theorem judgePhase_unsent (args : List Byte) (s : State) : Unsent s (judgePhase args s).state := by
  unfold judgePhase setPhase
  split
  · split
    · split
      · exact .refl s
      · exact .of_same rfl rfl
    · exact .refl s
  · exact .refl s

theorem zeroTime_unsent (s : State) : Unsent s (zeroTime s).state := by
  unfold zeroTime
  split
  · exact .of_same rfl rfl
  · exact .refl s

theorem judge_unsent (r : Request) (s : State) : Unsent s (judge r s).state := by
  unfold judge
  split
  · exact judgeEmpty_unsent (.refl s)
  · exact judgeGo_unsent _ s
  · exact judgeAbort_unsent _ s
  · exact judgeEmpty_unsent (zeroTime_unsent s)
  · exact judgeTable_unsent _ fun t first count => loadBegin_unsent t first count s
  · exact judgeLoadData_unsent _ s
  · exact judgeEmpty_unsent (loadAbort_unsent s)
  · exact judgeTable_unsent _ fun t first count => readTable_unsent t first count s
  · exact judgeEmpty_unsent (lockTest_unsent s)
  · exact judgeEmpty_unsent (unlockTest_unsent s)
  · exact judgeStatus_unsent _ s
  · exact judgeClear_unsent _ s
  · exact judgeEnables_unsent _ s
  · exact judgePhase_unsent _ s
  · exact judgeEmpty_unsent (.of_same rfl rfl)
  · exact judgeEmpty_unsent ⟨fun _ => rfl, rfl⟩
  · exact .refl s

/-! ## Lengths that no request of a kind has -/

/-- R170: an answer of BAD_REQUEST, with the controller's body for GO and ABORT (R172). -/
def badRequest (kind : Byte) (s : State) : Answer :=
  { state := s, code := .badRequest, body := if kind = 0x02 ∨ kind = 0x03 then acqBytes s else [] }

theorem badRequest_plain {kind : Byte} (other : ¬ (kind = 0x02 ∨ kind = 0x03)) (s : State) :
    badRequest kind s = Answer.plain s .badRequest := by
  unfold badRequest
  rw [if_neg other]
  rfl

theorem badRequest_controlled {kind : Byte} (controller : kind = 0x02 ∨ kind = 0x03) (s : State) :
    badRequest kind s = Answer.controlled s .badRequest := by
  unfold badRequest
  rw [if_pos controller]
  rfl

section
variable {args : List Byte}

theorem judgeEmpty_bad (wrong : ¬ args.length = 0) (f : State → Answer) (s : State) :
    judgeEmpty f args s = Answer.plain s .badRequest := by
  cases args with
  | nil => exact absurd rfl wrong
  | cons b bs => rfl

theorem judgeAbort_bad (wrong : ¬ args.length = 0) (s : State) : judgeAbort args s = Answer.controlled s .badRequest := by
  cases args with
  | nil => exact absurd rfl wrong
  | cons b bs => rfl

theorem judgeGo_bad (wrong : ¬ args.length = 1) (s : State) : judgeGo args s = Answer.controlled s .badRequest := by
  match args with
  | [] => rfl
  | [_] => exact absurd rfl wrong
  | _ :: _ :: _ => rfl

theorem judgeStatus_bad (wrong : ¬ args.length = 1) (s : State) : judgeStatus args s = Answer.plain s .badRequest := by
  match args with
  | [] => rfl
  | [_] => exact absurd rfl wrong
  | _ :: _ :: _ => rfl

theorem judgePhase_bad (wrong : ¬ args.length = 1) (s : State) : judgePhase args s = Answer.plain s .badRequest := by
  match args with
  | [] => rfl
  | [_] => exact absurd rfl wrong
  | _ :: _ :: _ => rfl

theorem judgeTable_bad (wrong : ¬ args.length = 3) (f : TableId → Nat → Nat → State → Answer) (s : State) :
    judgeTable f args s = Answer.plain s .badRequest := by
  match args with
  | [] => rfl
  | [_] => rfl
  | [_, _] => rfl
  | [_, _, _] => exact absurd rfl wrong
  | _ :: _ :: _ :: _ :: _ => rfl

theorem judgeClear_bad (wrong : ¬ args.length = 15) (s : State) : judgeClear args s = Answer.plain s .badRequest := if_neg wrong

theorem judgeEnables_bad (wrong : ¬ args.length = 10) (s : State) : judgeEnables args s = Answer.plain s .badRequest := by
  match args with
  | [] => rfl
  | [_] => rfl
  | group :: on :: enables =>
    refine if_neg fun length => wrong ?_
    rw [List.length_cons, List.length_cons, length]

/-- R170: the length that LOAD_DATA takes from its table and count. -/
theorem judgeLoadData_bad (wrong : ¬ ∃ table count entries, args = table :: count :: entries ∧
      ∀ id : TableId, table.toNat = id.number → 1 ≤ count.toNat → count.toNat ≤ 4 → entries.length = count.toNat * id.entrySize)
    (s : State) : judgeLoadData args s = Answer.plain s .badRequest := by
  match args with
  | [] => rfl
  | [_] => rfl
  | table :: count :: entries =>
    by_contra answered
    refine wrong ⟨table, count, entries, rfl, fun id named atLeast atMost => ?_⟩
    by_contra other
    exact answered ((judgeLoadData_named named atLeast atMost s).trans (if_neg other))

end

/-- R170: a length that its kind does not have. -/
theorem judge_bad {r : Request} (atLeast : 1 ≤ r.kind.toNat) (atMost : r.kind.toNat ≤ 0x10) (wrong : ¬ r.LengthFits) (s : State) :
    judge r s = badRequest r.kind s := by
  obtain ⟨kind, tag, args⟩ := r
  simp only at atLeast atMost ⊢
  have plain (n : Nat) (named : kind.toNat = n) (other : n ≠ 2 ∧ n ≠ 3) : badRequest kind s = Answer.plain s .badRequest := by
    refine badRequest_plain ?_ s
    rintro (go | abort)
    · exact other.1 (by rw [← named, go]; rfl)
    · exact other.2 (by rw [← named, abort]; rfl)
  unfold Request.LengthFits at wrong
  unfold judge
  simp only at wrong ⊢
  split at wrong
  · next named => rw [named, plain 1 named (by decide)]; exact judgeEmpty_bad wrong _ s
  · next named =>
    rw [named, badRequest_controlled (.inr (BitVec.eq_of_toNat_eq named))]
    exact judgeAbort_bad wrong s
  · next named => rw [named, plain 4 named (by decide)]; exact judgeEmpty_bad wrong _ s
  · next named => rw [named, plain 7 named (by decide)]; exact judgeEmpty_bad wrong _ s
  · next named => rw [named, plain 9 named (by decide)]; exact judgeEmpty_bad wrong _ s
  · next named => rw [named, plain 10 named (by decide)]; exact judgeEmpty_bad wrong _ s
  · next named => rw [named, plain 15 named (by decide)]; exact judgeEmpty_bad wrong _ s
  · next named => rw [named, plain 16 named (by decide)]; exact judgeEmpty_bad wrong _ s
  · next named =>
    rw [named, badRequest_controlled (.inl (BitVec.eq_of_toNat_eq named))]
    exact judgeGo_bad wrong s
  · next named => rw [named, plain 11 named (by decide)]; exact judgeStatus_bad wrong s
  · next named => rw [named, plain 14 named (by decide)]; exact judgePhase_bad wrong s
  · next named => rw [named, plain 5 named (by decide)]; exact judgeTable_bad wrong _ s
  · next named => rw [named, plain 8 named (by decide)]; exact judgeTable_bad wrong _ s
  · next named => rw [named, plain 6 named (by decide)]; exact judgeLoadData_bad wrong s
  · next named => rw [named, plain 12 named (by decide)]; exact judgeClear_bad wrong s
  · next named => rw [named, plain 13 named (by decide)]; exact judgeEnables_bad wrong s
  · generalize kind.toNat = n at *
    interval_cases n <;> contradiction

/-! ## Frames that carry a request -/

/-- R200: the frame of a request of a known kind and a length within the largest is read as that request. -/
theorem goodRequest_wireOf {r : Request} (atLeast : 1 ≤ r.kind.toNat) (atMost : r.kind.toNat ≤ 0x10)
    (length : r.args.length + 1 ≤ maxRequestPayload) : goodRequest (wireOf r) = some r := by
  have longest : maxRequestPayload = 107 := rfl
  have fits : (r.tag :: r.args).length < 65536 := by
    rw [List.length_cons]
    omega
  have checkFits : crc16 (checkedBytes r.kind (r.tag :: r.args)) < 65536 := crc16From_lt _ _ (by decide)
  exact (goodRequest_escapeBytes fits checkFits).trans
    (if_pos ⟨length, (isRequestKind_iff r.kind).mpr ⟨atLeast, atMost⟩, rfl⟩)

/-- R168: the end of a good frame is the arrival of its request. -/
theorem exec_goodFrame {r : Request} (atLeast : 1 ≤ r.kind.toNat) (atMost : r.kind.toNat ≤ 0x10)
    (length : r.args.length + 1 ≤ maxRequestPayload) (s : State) :
    exec (.downlinkFrameEnd (wireOf r)) s = .next (submit r s) := by
  show Host.Outcome.next (finish (endFrame (wireOf r) s)) = _
  unfold endFrame
  rw [goodRequest_wireOf atLeast atMost length]
  rfl

theorem requestOf_kind {i : Instr} {r : Request} (requested : requestOf i = some r) : 1 ≤ r.kind.toNat ∧ r.kind.toNat ≤ 0x10 := by
  cases i <;> simp only [requestOf, Option.some.injEq, reduceCtorEq] at requested <;> subst requested <;>
    exact ⟨Nat.le_of_ble_eq_true rfl, Nat.le_of_ble_eq_true rfl⟩

/-- R169: what taking a request leaves of the link. -/
theorem takeRequest_unsent (r : Request) (s : State) : Unsent s (takeRequest r s) := by
  have counted : Unsent s (countTaken s) := ⟨id, rfl⟩
  have judged := counted.trans (judge_unsent r (countTaken s))
  exact ⟨judged.inbound, judged.canStart⟩

/-- Settles O8: the frame check and the escapes give the request back; the interpreter then takes it, refuses its length, or leaves it
waiting. -/
theorem requestFramesAreRead : Obligations.RequestFramesAreRead := by
  refine ⟨fun i r s requested length => ?_, fun r s atLeast atMost length => ?_⟩
  · obtain ⟨atLeast, atMost⟩ := requestOf_kind requested
    rw [exec_goodFrame atLeast atMost length, exec_request requested]
  · intro result
    have arrived := exec_goodFrame atLeast atMost length s
    refine ⟨fun quiet => ?_, fun cannotStart full => ?_⟩
    · have taken := takeRequest_unsent r s
      rw [submit_quiet quiet r (taken.canStart.trans quiet.cannotStart)] at arrived
      refine ⟨⟨takeRequest r s, (judge r (countTaken s)).code, (judge r (countTaken s)).body, arrived, taken.inbound quiet.inbound, ?_⟩,
        fun wrong => ?_⟩
      · exact List.getLast?_concat
      · refine arrived.trans (congrArg Host.Outcome.next ?_)
        unfold takeRequest
        rw [judge_bad atLeast atMost wrong]
        rfl
    · rw [show result = fun t => exec (.downlinkFrameEnd (wireOf r)) s = .next t from rfl, arrived]
      obtain ⟨waits, dropped⟩ := submit_full r cannotStart full
      exact ⟨fun room => congrArg _ (waits room), fun none => congrArg _ (dropped none)⟩

end Sys2Proof.Machine
end

section
/-! R200, R201, R202: the layouts of the uplink payloads and the frame in flight (O9). -/

namespace Sys2Proof.Machine

/-! ## Fields of appended bytes -/

theorem fieldAt_append_skip {xs ys : List Byte} {offset size : Nat} (behind : xs.length ≤ offset) :
    fieldAt (xs ++ ys) offset size = fieldAt ys (offset - xs.length) size := by
  rw [fieldAt, fieldAt, List.drop_append, List.drop_eq_nil_of_le behind, List.nil_append]

theorem fieldAt_append_inside {xs ys : List Byte} {offset size : Nat} (inside : offset + size ≤ xs.length) :
    fieldAt (xs ++ ys) offset size = fieldAt xs offset size := by
  rw [fieldAt, fieldAt, List.drop_append_of_le_length (by omega), List.take_append_of_le_length (by rw [List.length_drop]; omega)]

/-- A field of one of several parts of the same size. -/
theorem fieldAt_flatMap {α : Type} {f : α → List Byte} {size : Nat} {l : List α} (same : ∀ a ∈ l, (f a).length = size) {i : Nat}
    {a : α} (here : l[i]? = some a) {offset n : Nat} (inside : offset + n ≤ size) (rest : List Byte) :
    fieldAt (l.flatMap f ++ rest) (i * size + offset) n = fieldAt (f a) offset n := by
  obtain ⟨hi, rfl⟩ := List.getElem?_eq_some_iff.mp here
  have length : ((l.take i).flatMap f).length = i * size := by
    rw [← take_flatMap_of_length same, List.length_take, List.length_flatMap, Nat.min_eq_left]
    rw [List.map_congr_left (g := fun _ => size) same, List.map_const', List.sum_replicate, smul_eq_mul]
    exact Nat.mul_le_mul_right _ hi.le
  have split : l.flatMap f = (l.take i).flatMap f ++ (f l[i] ++ (l.drop (i + 1)).flatMap f) := by
    rw [← List.flatMap_cons, List.getElem_cons_drop, ← List.flatMap_append, List.take_append_drop]
  rw [split, List.append_assoc, List.append_assoc, fieldAt_append_skip (by omega), length, Nat.add_sub_cancel_left,
    fieldAt_append_inside (by rw [same _ (List.getElem_mem hi)]; exact inside)]

/-! ## Flags -/

/-- The number whose bits are these flags, the first of them bit 0. -/
def flagsNumber : List Bool → Nat
  | [] => 0
  | b :: bs => b.toNat + 2 * flagsNumber bs

theorem flagsNumber_lt (bs : List Bool) : flagsNumber bs < 2 ^ bs.length := by
  induction bs with
  | nil => exact Nat.one_pos
  | cons b bs ih =>
    rw [flagsNumber, List.length_cons, pow_succ]
    have := b.toNat_le
    omega

theorem map_testBit_flagsNumber (bs : List Bool) : (List.range bs.length).map (Nat.testBit (flagsNumber bs)) = bs := by
  induction bs with
  | nil => rfl
  | cons b bs ih =>
    have low : (b.toNat + 2 * flagsNumber bs).testBit 0 = b := by
      rw [Nat.testBit_zero]
      cases b <;> simp
    have high (i : Nat) : (b.toNat + 2 * flagsNumber bs).testBit (i + 1) = (flagsNumber bs).testBit i := by
      rw [Nat.testBit_succ]
      congr 1
      have := b.toNat_lt
      omega
    rw [List.length_cons, List.range_succ_eq_map, List.map_cons, List.map_map, flagsNumber, low]
    refine congrArg _ (Eq.trans (List.map_congr_left fun i _ => high i) ih)

theorem flagBit_eq (b : Bool) (k : Nat) : flagBit b k = b.toNat * 2 ^ k := by
  cases b <;> simp [flagBit]

/-! ## Hit records -/

theorem HitFlags.number_eq (f : HitFlags) : f.number =
    flagsNumber [f.clipped, f.truncated, f.laneFault, f.aborted, f.clockFault, f.guarded, f.noContext, f.orphaned, f.eventLost,
      f.wfSkipped, f.pStale] := by
  simp only [HitFlags.number, flagBit_eq, flagsNumber]
  ring

theorem HitRecord.presence_eq (r : HitRecord) : r.presence = flagsNumber [r.eventId.isSome, r.gap.isSome, r.segId.isSome] := by
  simp only [HitRecord.presence, flagBit_eq, flagsNumber]
  ring

/-- R201: the fixed part of a hit record, before the parts that can be absent. -/
def HitRecord.fixedBytes (r : HitRecord) : List Byte :=
  beBytes 4 r.hitId.toNat ++ (beBytes 1 r.channel.val ++ (beBytes 1 r.role.number ++ (beBytes 6 r.arrival.toNat ++
    (beBytes 4 r.duration ++ (beBytes 4 r.rise ++ (beBytes 2 r.counts ++ (beBytes 2 r.countsToPeak ++ (beBytes 1 r.amplitude ++
      (beBytes 4 r.energy ++ (beBytes 4 r.pressure ++ (beBytes 2 r.flags.number ++ (beBytes 1 r.presence ++ []))))))))))))

theorem HitRecord.fixedBytes_length (r : HitRecord) : r.fixedBytes.length = 36 := by
  simp [HitRecord.fixedBytes, beBytes_length]

theorem HitRecord.bytes_eq (r : HitRecord) : r.bytes = r.fixedBytes ++ (optionalPart (r.eventId.map BitVec.toNat) ++
    (optionalPart r.gap ++ optionalPart (r.segId.map BitVec.toNat))) := by
  simp only [HitRecord.bytes, HitRecord.fixedBytes, counterBytes, timeBytes, List.append_assoc, List.append_nil]

theorem Role.number_lt (r : Role) : r.number < 256 := by cases r <;> decide

theorem HitRecord.bytes_layout {r : HitRecord} (fits : r.Fits) : r.Layout r.bytes := by
  have flagsFit := flagsNumber_lt [r.flags.clipped, r.flags.truncated, r.flags.laneFault, r.flags.aborted, r.flags.clockFault,
    r.flags.guarded, r.flags.noContext, r.flags.orphaned, r.flags.eventLost, r.flags.wfSkipped, r.flags.pStale]
  have flagBits := map_testBit_flagsNumber [r.flags.clipped, r.flags.truncated, r.flags.laneFault, r.flags.aborted,
    r.flags.clockFault, r.flags.guarded, r.flags.noContext, r.flags.orphaned, r.flags.eventLost, r.flags.wfSkipped, r.flags.pStale]
  have presenceFits := flagsNumber_lt [r.eventId.isSome, r.gap.isSome, r.segId.isSome]
  have presenceBits := map_testBit_flagsNumber [r.eventId.isSome, r.gap.isSome, r.segId.isSome]
  rw [← r.flags.number_eq] at flagsFit flagBits
  rw [← r.presence_eq] at presenceFits presenceBits
  obtain ⟨duration, rise, counts, countsToPeak, amplitude, energy, pressure, gap⟩ := fits
  have channel := r.channel.isLt
  have role := r.role.number_lt
  have flags : r.flags.number < 256 ^ 2 := flagsFit.trans (show 2 ^ 11 < 256 ^ 2 by decide)
  have presence : r.presence < 256 ^ 1 := presenceFits.trans (show 2 ^ 3 < 256 ^ 1 by decide)
  have inFixed {offset size : Nat} (inside : offset + size ≤ 36) : fieldAt r.bytes offset size = fieldAt r.fixedBytes offset size := by
    rw [r.bytes_eq]
    exact fieldAt_append_inside (by rw [r.fixedBytes_length]; exact inside)
  have length : r.bytes.length = 36 + (optionalPart (r.eventId.map BitVec.toNat)).length + (optionalPart r.gap).length
      + (optionalPart (r.segId.map BitVec.toNat)).length := by
    rw [r.bytes_eq]
    simp only [List.length_append, r.fixedBytes_length]
    omega
  constructor
  case length =>
    rw [length]
    cases r.eventId <;> cases r.gap <;> cases r.segId <;> rfl
  case flags =>
    rw [inFixed (by decide), show fieldAt r.fixedBytes 33 2 = r.flags.number by
      unfold HitRecord.fixedBytes
      simp (disch := omega) only [fieldAt_beBytes_skip, fieldAt_append_of_lt, Nat.reduceSub]]
    exact ⟨flagsFit, flagBits⟩
  case presence =>
    rw [inFixed (by decide), show fieldAt r.fixedBytes 35 1 = r.presence by
      unfold HitRecord.fixedBytes
      simp (disch := omega) only [fieldAt_beBytes_skip, fieldAt_append_of_lt, Nat.reduceSub]]
    exact ⟨presenceFits, presenceBits⟩
  case role =>
    rw [inFixed (by decide)]
    unfold HitRecord.fixedBytes
    simp (disch := omega) only [fieldAt_beBytes_skip, fieldAt_append_of_lt, Nat.reduceSub]
    cases r.role <;> rfl
  case eventId =>
    intro e event
    rw [r.bytes_eq, event, fieldAt_append_skip (by rw [r.fixedBytes_length]), r.fixedBytes_length]
    exact fieldAt_toNat_append e (by decide) _
  case gap =>
    intro g present
    rw [r.bytes_eq, present, fieldAt_append_skip (by rw [r.fixedBytes_length]; split <;> omega), r.fixedBytes_length]
    cases r.eventId with
    | none => exact fieldAt_append_of_lt (gap g present) _
    | some e =>
      refine (fieldAt_append_skip (by rw [Option.map_some, optionalPart, beBytes_length, if_pos Option.isSome_some])).trans ?_
      exact fieldAt_append_of_lt (gap g present) _
  case segId =>
    intro g present
    rw [length, r.bytes_eq, present, ← List.append_assoc, ← List.append_assoc]
    have front : (r.fixedBytes ++ optionalPart (r.eventId.map BitVec.toNat) ++ optionalPart r.gap).length
        = 36 + (optionalPart (r.eventId.map BitVec.toNat)).length + (optionalPart r.gap).length := by
      simp only [List.length_append, r.fixedBytes_length]
    have last : (optionalPart (Option.map BitVec.toNat (some g))).length = 4 := beBytes_length 4 _
    rw [last, Nat.add_sub_cancel, ← front, fieldAt_append_skip le_rfl, Nat.sub_self]
    have read := fieldAt_toNat_append g (size := 4) (by decide) []
    rwa [List.append_nil] at read
  all_goals
    rw [inFixed (by decide)]
    unfold HitRecord.fixedBytes
    simp (disch := omega) only [fieldAt_beBytes_skip, fieldAt_append_of_lt, Nat.reduceSub]

/-! ## Event records -/

theorem EventRecord.flags_eq (e : EventRecord) : e.flags = flagsNumber [e.belowPeakLoad, e.locClamped, e.partialMark, e.pStale] := by
  simp only [EventRecord.flags, flagBit_eq, flagsNumber]
  ring

theorem EventMember.bytes_eq (m : EventMember) : m.bytes =
    beBytes 1 m.channel.val ++ (beBytes 4 m.hitId.toNat ++ (beBytes 2 m.dt ++ (beBytes 1 m.amplitude ++ []))) := by
  simp only [EventMember.bytes, counterBytes, List.append_assoc, List.append_nil]

theorem EventMember.bytes_length (m : EventMember) : m.bytes.length = 8 := by
  simp [EventMember.bytes_eq, beBytes_length]

/-- R201: an event record before its members. -/
def EventRecord.fixedBytes (e : EventRecord) : List Byte :=
  beBytes 4 e.eventId.toNat ++ (beBytes 6 e.openTime.toNat ++ (beBytes 1 e.first.val ++ (beBytes 1 e.zone.val ++
    (beBytes 4 e.pressure ++ (beBytes 1 e.flags ++ (beBytes 1 e.c1.val ++ (beBytes 1 e.c2.val ++ (beBytes 2 e.xMm ++
      (beBytes 1 e.members.length ++ [])))))))))

theorem EventRecord.fixedBytes_length (e : EventRecord) : e.fixedBytes.length = 22 := by
  simp [EventRecord.fixedBytes, beBytes_length]

theorem EventRecord.bytes_eq (e : EventRecord) : e.bytes = e.fixedBytes ++ e.members.flatMap EventMember.bytes := by
  simp only [EventRecord.bytes, EventRecord.fixedBytes, counterBytes, timeBytes, List.append_assoc, List.append_nil]

theorem flatMap_length_of_same {α : Type} {f : α → List Byte} {size : Nat} {l : List α} (same : ∀ a ∈ l, (f a).length = size) :
    (l.flatMap f).length = l.length * size := by
  rw [List.length_flatMap, List.map_congr_left (g := fun _ => size) same, List.map_const', List.sum_replicate, smul_eq_mul]

theorem EventRecord.bytes_layout {e : EventRecord} (fits : e.Fits) : e.Layout e.bytes := by
  have flagsFit := flagsNumber_lt [e.belowPeakLoad, e.locClamped, e.partialMark, e.pStale]
  have flagBits := map_testBit_flagsNumber [e.belowPeakLoad, e.locClamped, e.partialMark, e.pStale]
  rw [← e.flags_eq] at flagsFit flagBits
  obtain ⟨pressure, xMm, count, dt, amplitude⟩ := fits
  have first := e.first.isLt
  have zone := e.zone.isLt
  have c1 := e.c1.isLt
  have c2 := e.c2.isLt
  have flags : e.flags < 256 ^ 1 := flagsFit.trans (show 2 ^ 4 < 256 ^ 1 by decide)
  have inFixed {offset size : Nat} (inside : offset + size ≤ 22) : fieldAt e.bytes offset size = fieldAt e.fixedBytes offset size := by
    rw [e.bytes_eq]
    exact fieldAt_append_inside (by rw [e.fixedBytes_length]; exact inside)
  constructor
  case length =>
    rw [e.bytes_eq, List.length_append, e.fixedBytes_length, flatMap_length_of_same fun m _ => m.bytes_length, Nat.mul_comm]
  case flags =>
    rw [inFixed (by decide), show fieldAt e.fixedBytes 16 1 = e.flags by
      unfold EventRecord.fixedBytes
      simp (disch := omega) only [fieldAt_beBytes_skip, fieldAt_append_of_lt, Nat.reduceSub]]
    exact ⟨flagsFit, flagBits⟩
  case members =>
    intro i m here
    have member {offset size : Nat} (inside : offset + size ≤ 8) :
        fieldAt e.bytes (22 + offset + 8 * i) size = fieldAt m.bytes offset size := by
      have field := fieldAt_flatMap (f := EventMember.bytes) (fun m _ => m.bytes_length) here inside []
      rw [List.append_nil] at field
      rw [e.bytes_eq, fieldAt_append_skip (by rw [e.fixedBytes_length]; omega), e.fixedBytes_length,
        show 22 + offset + 8 * i - 22 = i * 8 + offset by omega, field]
    have channel := m.channel.isLt
    have dt := dt m (List.mem_of_getElem? here)
    have amplitude := amplitude m (List.mem_of_getElem? here)
    rw [show 22 + 8 * i = 22 + 0 + 8 * i from rfl, show 23 + 8 * i = 22 + 1 + 8 * i from rfl,
      show 27 + 8 * i = 22 + 5 + 8 * i from rfl, show 29 + 8 * i = 22 + 7 + 8 * i from rfl, member (by decide), member (by decide),
      member (by decide), member (by decide), m.bytes_eq]
    simp (disch := omega) only [fieldAt_beBytes_skip, fieldAt_append_of_lt, Nat.reduceSub, and_self]
  all_goals
    rw [inFixed (by decide)]
    unfold EventRecord.fixedBytes
    simp (disch := omega) only [fieldAt_beBytes_skip, fieldAt_append_of_lt, Nat.reduceSub]

/-! ## Interval records -/

theorem IntervalRecord.flags_eq (i : IntervalRecord) : i.flags = flagsNumber [i.pStale, i.prevReplaced, i.digest.isSome] := by
  simp only [IntervalRecord.flags, flagBit_eq, flagsNumber]
  ring

theorem IntervalChannel.bytes_eq (c : IntervalChannel) : c.bytes =
    beBytes 1 (c.aslDb.getD 255) ++ (beBytes 4 c.opened.toNat ++ (beBytes 4 c.lost.toNat ++ [])) := by
  simp only [IntervalChannel.bytes, singleton_optByte, counterBytes, List.append_assoc, List.append_nil]

theorem IntervalChannel.bytes_length (c : IntervalChannel) : c.bytes.length = 9 := by
  simp [IntervalChannel.bytes_eq, beBytes_length]

/-- R201: an interval record before its channels. -/
def IntervalRecord.fixedBytes (i : IntervalRecord) : List Byte :=
  beBytes 6 i.time.toNat ++ (beBytes 4 i.pressure ++ (beBytes 4 i.pMax ++ (beBytes 1 i.phase.number ++ (beBytes 1 i.shedLevel ++
    (beBytes 1 i.acqState ++ (beBytes 1 i.flags ++ []))))))

theorem IntervalRecord.fixedBytes_length (i : IntervalRecord) : i.fixedBytes.length = 18 := by
  simp [IntervalRecord.fixedBytes, beBytes_length]

theorem IntervalRecord.bytes_eq (i : IntervalRecord) : i.bytes =
    i.fixedBytes ++ (i.perChannel.toList.flatMap IntervalChannel.bytes ++ (beBytes 4 i.eventsCompleted.toNat ++
      (i.holdCounts.toList.flatMap (beBytes 2) ++ optionalPart (i.digest.map BitVec.toNat)))) := by
  simp only [IntervalRecord.bytes, IntervalRecord.fixedBytes, counterBytes, timeBytes, List.append_assoc, List.append_nil]

theorem Phase.number_lt (p : Phase) : p.number < 256 := by cases p <;> decide

/-- An entry of a table of sixteen stands at its index in the table's list. -/
theorem toList_getElem?_index {α : Type} (v : Vector α 16) (i : Fin 16) : v.toList[i.val]? = some v[i] := by
  rw [toList_get?]
  exact Vector.getElem?_eq_getElem i.isLt

theorem IntervalRecord.bytes_layout {r : IntervalRecord} (fits : r.Fits) : r.Layout r.bytes := by
  have flagsFit := flagsNumber_lt [r.pStale, r.prevReplaced, r.digest.isSome]
  have flagBits := map_testBit_flagsNumber [r.pStale, r.prevReplaced, r.digest.isSome]
  rw [← r.flags_eq] at flagsFit flagBits
  obtain ⟨pressure, pMax, shedLevel, acqState, asl, holdCounts⟩ := fits
  have phase := r.phase.number_lt
  have flags : r.flags < 256 ^ 1 := flagsFit.trans (show 2 ^ 3 < 256 ^ 1 by decide)
  have channels := flatMap_length_of_same (l := r.perChannel.toList) fun c _ => c.bytes_length
  have counts := flatMap_length_of_same (l := r.holdCounts.toList) fun n _ => beBytes_length 2 n
  rw [Vector.length_toList] at channels counts
  have inFixed {offset size : Nat} (inside : offset + size ≤ 18) : fieldAt r.bytes offset size = fieldAt r.fixedBytes offset size := by
    rw [r.bytes_eq]
    exact fieldAt_append_inside (by rw [r.fixedBytes_length]; exact inside)
  have afterFixed {offset size : Nat} (behind : 18 ≤ offset) : fieldAt r.bytes offset size
      = fieldAt (r.perChannel.toList.flatMap IntervalChannel.bytes ++ (beBytes 4 r.eventsCompleted.toNat ++
          (r.holdCounts.toList.flatMap (beBytes 2) ++ optionalPart (r.digest.map BitVec.toNat)))) (offset - 18) size := by
    rw [r.bytes_eq, fieldAt_append_skip (by rw [r.fixedBytes_length]; exact behind), r.fixedBytes_length]
  have afterChannels {offset size : Nat} (behind : 162 ≤ offset) : fieldAt r.bytes offset size
      = fieldAt (beBytes 4 r.eventsCompleted.toNat ++
          (r.holdCounts.toList.flatMap (beBytes 2) ++ optionalPart (r.digest.map BitVec.toNat))) (offset - 162) size := by
    rw [afterFixed (by omega), fieldAt_append_skip (by omega), channels, Nat.sub_sub]
  constructor
  case length =>
    simp only [r.bytes_eq, List.length_append, r.fixedBytes_length, channels, counts, beBytes_length]
    cases r.digest <;> rfl
  case flags =>
    rw [inFixed (by decide), show fieldAt r.fixedBytes 17 1 = r.flags by
      unfold IntervalRecord.fixedBytes
      simp (disch := omega) only [fieldAt_beBytes_skip, fieldAt_append_of_lt, Nat.reduceSub]]
    exact ⟨flagsFit, flagBits⟩
  case phase =>
    rw [inFixed (by decide)]
    unfold IntervalRecord.fixedBytes
    simp (disch := omega) only [fieldAt_beBytes_skip, fieldAt_append_of_lt, Nat.reduceSub]
    cases r.phase <;> rfl
  case perChannel =>
    intro ch
    have part {offset size : Nat} (inside : offset + size ≤ 9) :
        fieldAt r.bytes (18 + offset + 9 * ch.val) size = fieldAt r.perChannel[ch].bytes offset size := by
      rw [afterFixed (by omega), show 18 + offset + 9 * ch.val - 18 = ch.val * 9 + offset by omega]
      exact fieldAt_flatMap (fun c _ => c.bytes_length) (toList_getElem?_index _ ch) inside _
    have asl : r.perChannel[ch].aslDb.getD 255 < 256 := by
      cases present : r.perChannel[ch].aslDb with
      | none => decide
      | some a => exact asl ch a present
    rw [show 18 + 9 * ch.val = 18 + 0 + 9 * ch.val from rfl, show 19 + 9 * ch.val = 18 + 1 + 9 * ch.val from rfl,
      show 23 + 9 * ch.val = 18 + 5 + 9 * ch.val from rfl, part (by decide), part (by decide), part (by decide),
      IntervalChannel.bytes_eq]
    simp (disch := omega) only [fieldAt_beBytes_skip, fieldAt_append_of_lt, Nat.reduceSub, and_self]
  case eventsCompleted =>
    rw [afterChannels (by decide)]
    exact fieldAt_toNat_append _ (by decide) _
  case holdCounts =>
    intro z
    rw [afterChannels (by omega), fieldAt_beBytes_skip _ _ _ _ _ (by omega), show 166 + 2 * z.val - 162 - 4 = z.val * 2 + 0 by omega,
      fieldAt_flatMap (fun n _ => beBytes_length 2 n) (toList_getElem?_index _ z) (by decide)]
    have read := fieldAt_append_of_lt (n := 2) (holdCounts z) []
    rwa [List.append_nil] at read
  case digest =>
    intro d present
    rw [afterChannels (by decide), fieldAt_beBytes_skip _ _ _ _ _ (by decide), fieldAt_append_skip (by rw [counts]), counts, present]
    have read := fieldAt_toNat_append d (size := 4) (by decide) []
    rwa [List.append_nil] at read
  all_goals
    rw [inFixed (by decide)]
    unfold IntervalRecord.fixedBytes
    simp (disch := omega) only [fieldAt_beBytes_skip, fieldAt_append_of_lt, Nat.reduceSub]

/-! ## Notices, pieces, responses -/

theorem Group.number_lt_byte (g : Group) : g.number < 256 := g.number_lt.trans (by decide)

theorem Factor.number_lt (f : Factor) : f.number < 256 := by cases f <;> exact Nat.lt_of_sub_eq_succ rfl

theorem Notice.bytes_layout {n : Notice} (index : n.index < 2 ^ 8) (state : ∀ st, n.state = some st → st < 2 ^ 8) :
    n.Layout n.bytes := by
  have bytes : n.bytes = beBytes 1 n.factor.group.number ++ (beBytes 1 n.factor.number ++ (beBytes 1 n.index ++
      (beBytes 1 (n.state.getD 255) ++ (beBytes 6 n.time.toNat ++ [])))) := by
    simp only [Notice.bytes, singleton_optByte, timeBytes, List.append_assoc, List.append_nil]
  have group := n.factor.group.number_lt_byte
  have number := n.factor.number_lt
  have state : n.state.getD 255 < 256 := by
    cases present : n.state with
    | none => decide
    | some st => exact state st present
  constructor
  case length => simp [bytes, beBytes_length]
  case factor =>
    rw [bytes]
    simp (disch := omega) only [fieldAt_beBytes_skip, fieldAt_append_of_lt, Nat.reduceSub]
    cases n.factor <;> rfl
  all_goals
    rw [bytes]
    simp (disch := omega) only [fieldAt_beBytes_skip, fieldAt_append_of_lt, Nat.reduceSub]

theorem Piece.flags_eq (p : Piece) : p.flags = flagsNumber [p.last, p.cut] := by
  simp only [Piece.flags, flagBit_eq, flagsNumber]
  ring

/-- R201: a waveform piece before its samples. -/
def Piece.fixedBytes (p : Piece) : List Byte :=
  beBytes 4 p.segId.toNat ++ (beBytes 1 p.channel.val ++ (beBytes 4 p.hitId.toNat ++ (beBytes 1 p.index ++ (beBytes 1 p.flags ++
    (beBytes 6 p.firstTime.toNat ++ (beBytes 2 p.samples.length ++ []))))))

theorem Piece.fixedBytes_length (p : Piece) : p.fixedBytes.length = 19 := by
  simp [Piece.fixedBytes, beBytes_length]

theorem Piece.bytes_eq (p : Piece) : p.bytes = p.fixedBytes ++ p.samples.flatMap fun s => beBytes 2 s.toNat := by
  simp only [Piece.bytes, Piece.fixedBytes, counterBytes, timeBytes, List.append_assoc, List.append_nil]

theorem Piece.bytes_layout {p : Piece} (index : p.index < 2 ^ 8) (count : p.samples.length < 2 ^ 16) : p.Layout p.bytes := by
  have flagsFit := flagsNumber_lt [p.last, p.cut]
  have flagBits := map_testBit_flagsNumber [p.last, p.cut]
  rw [← p.flags_eq] at flagsFit flagBits
  have channel := p.channel.isLt
  have flags : p.flags < 256 ^ 1 := flagsFit.trans (show 2 ^ 2 < 256 ^ 1 by decide)
  have inFixed {offset size : Nat} (inside : offset + size ≤ 19) : fieldAt p.bytes offset size = fieldAt p.fixedBytes offset size := by
    rw [p.bytes_eq]
    exact fieldAt_append_inside (by rw [p.fixedBytes_length]; exact inside)
  constructor
  case length =>
    rw [p.bytes_eq, List.length_append, p.fixedBytes_length, flatMap_length_of_same fun s _ => beBytes_length 2 s.toNat, Nat.mul_comm]
  case flags =>
    rw [inFixed (by decide), show fieldAt p.fixedBytes 10 1 = p.flags by
      unfold Piece.fixedBytes
      simp (disch := omega) only [fieldAt_beBytes_skip, fieldAt_append_of_lt, Nat.reduceSub]]
    exact ⟨flagsFit, flagBits⟩
  case samples =>
    intro i smp here
    have field := fieldAt_flatMap (f := fun s : Sample => beBytes 2 s.toNat) (fun s _ => beBytes_length 2 s.toNat) here
      (offset := 0) (n := 2) (by decide) []
    rw [List.append_nil] at field
    rw [p.bytes_eq, fieldAt_append_skip (by rw [p.fixedBytes_length]; omega), p.fixedBytes_length,
      show 19 + 2 * i - 19 = i * 2 + 0 by omega, field]
    have read := fieldAt_toNat_append smp (size := 2) (by decide) []
    rwa [List.append_nil] at read
  all_goals
    rw [inFixed (by decide)]
    unfold Piece.fixedBytes
    simp (disch := omega) only [fieldAt_beBytes_skip, fieldAt_append_of_lt, Nat.reduceSub]

theorem Code.number_eq_idxOf (c : Code) : c.number = codeOrder.idxOf c := by cases c <;> rfl

/-! ## The frame in flight -/

/-- R200: no byte that is sent after the start marker is a start marker. -/
theorem startMarker_notMem_escapeBytes (bs : List Byte) : startMarker ∉ escapeBytes bs := by
  intro sent
  obtain ⟨b, -, sent⟩ := List.mem_flatMap.mp sent
  split at sent
  · next marked =>
    rcases marked with rfl | rfl
    · revert sent; decide
    · revert sent; decide
  · next plain =>
    rw [List.mem_singleton] at sent
    exact plain (.inl sent.symm)

/-- R200, R201: kind and payload of an uplink frame are read back from what is sent after the start marker. -/
theorem uplink_read {s : State} {f : UplinkFrame} (sending : s.rq.tx = some f) (length : f.payload.length < 2 ^ 16) :
    ∃ wire : List Byte, s.uplink = some (0xA5 :: wire) ∧ (0xA5 : Byte) ∉ wire ∧
      frameOf wire = some (f.kind, f.payload, crc16 (f.kind :: (beBytes 2 f.payload.length ++ f.payload))) := by
  refine ⟨_, ?_, startMarker_notMem_escapeBytes _,
    frameOf_escapeBytes f.kind f.payload (crc16 (checkedBytes f.kind f.payload)) length (crc16From_lt _ _ (by decide))⟩
  unfold State.uplink
  rw [sending]
  rfl

theorem beBytes_one (n : Nat) : beBytes 1 n = [BitVec.ofNat 8 n] := by simp [beBytes]

/-- Settles O9: entries read back, and the layouts of R201 field by field. -/
theorem tableEntriesRoundTrip : Obligations.TableEntriesRoundTrip := by
  refine ⟨fun e values => ⟨encodeEntry_length e, decodeEntry_encodeEntry values⟩, fun r => HitRecord.bytes_layout,
    fun e => EventRecord.bytes_layout, fun i => IntervalRecord.bytes_layout, fun n => Notice.bytes_layout, fun p => Piece.bytes_layout,
    fun r => ?_, fun s f sending => ?_, fun s idle => ?_⟩
  · show r.tag :: r.kind :: byte r.code.number :: r.body = _
    rw [Code.number_eq_idxOf]
    rfl
  · have sent := uplink_read sending
    cases f with
    | notices ns =>
      rw [show (UplinkFrame.notices ns).payload = BitVec.ofNat 8 ns.length :: (ns.map Notice.bytes).flatten by
        simp only [UplinkFrame.payload, beBytes_one, List.flatMap, List.cons_append, List.nil_append]] at sent
      exact sent
    | hits hs =>
      rw [show (UplinkFrame.hits hs).payload = BitVec.ofNat 8 hs.length :: (hs.map HitRecord.bytes).flatten by
        simp only [UplinkFrame.payload, beBytes_one, List.flatMap, List.cons_append, List.nil_append]] at sent
      exact sent
    | response r => exact sent
    | event e => exact sent
    | interval i => exact sent
    | waveform p => exact sent
  · unfold State.uplink
    rw [idle]
    rfl

end Sys2Proof.Machine
end

section
/-! The events of the clock and of one channel's expiry: a lock achieved, the lock timer, and the ends of a rearm hold, a settle period
and a sync search. -/

namespace Sys2Proof.Machine

/-! ## Expiries of a part at rest -/

theorem Unsent.atRest {s t : State} (h : Unsent s t) (rest : s.AtRest) : t.AtRest :=
  ⟨h.inbound rest.inbound, h.canStart.trans rest.cannotStart⟩

theorem finish_unsent {s t : State} (h : Unsent s t) (rest : s.AtRest) : finish t = t := finish_atRest (h.atRest rest)

theorem takeDue_notDue {due : State → Bool} {effect : State → State} {s : State} (early : ¬ due s = true) :
    takeDue due effect s = s := if_neg early

theorem takeDue_atRest {due : State → Bool} {effect : State → State} {s : State} (ended : due s = true) (rest : s.AtRest)
    (h : Unsent s (effect s)) : takeDue due effect s = effect s :=
  (if_pos ended).trans (finish_unsent h rest)

/-! ## The clock synthesizer -/

theorem achieveLock_eq (s : State) : achieveLock s =
    { s with
      synth := .locked
      acq := s.acq.locked
      lanes := tabulate fun ch =>
        let l := s.lanes[ch]
        if s.dets[ch].active.enabled then
          { l with state := .syncing, goodRun := 0, syncTicks := 0, framingList := [], missingRun := 0, fullRun := 0,
                   cleanRun := 0, declared := false }
        else { l with declared := false }
      pl := { s.pl with slotTicks := 0, slotFilled := false } } := rfl

theorem Acq.locked_of_other {a : Acq} (other : ∀ t, a ≠ .starting t .locking) : a.locked = a := by
  unfold Acq.locked
  split
  · next t => exact absurd rfl (other t)
  all_goals rfl

theorem exec_lockAchieved {s : State} {e : Nat} (rest : s.AtRest) (locking : s.synth = .locking e) :
    exec .lockAchieved s = .next (achieveLock s) := by
  show execLockAchieved s = _
  unfold execLockAchieved
  rw [locking]
  have kept : Unsent s (achieveLock s) := .of_same rfl rfl
  exact congrArg Host.Outcome.next (finish_unsent kept rest)

/-- Settles O38: only a LOCKING synthesizer takes the indication; the controller leaves the LOCKING substep if it is in it. -/
theorem lockAchievedStartsTicks : Obligations.LockAchievedStartsTicks := by
  intro s
  refine ⟨fun other => ?_, ?_⟩
  · show execLockAchieved s = _
    unfold execLockAchieved
    split
    · next e locking => exact absurd locking (other e)
    all_goals rfl
  · intro e rest locking locked
    refine ⟨fun t acq => ?_, fun other => ?_⟩
    all_goals rw [exec_lockAchieved rest locking, achieveLock_eq]
    · rw [acq]
      rfl
    · rw [Acq.locked_of_other other]

theorem setFactor_dets (f : Factor) (index : Nat) (reached : Option Nat) (s : State) : (setFactor f index reached s).dets = s.dets := by
  obtain ⟨fs, ns, latched, -⟩ := setFactor_frame f index reached s
  rw [latched]
  rfl

/-- R30: a start that fails while no hit is open. -/
theorem failStart_eq {s : State} (cause : StartFailure) (closed : ∀ ch : Channel, s.dets[ch].open? = none)
    (notLearning : ∀ n p, s.acq ≠ .learning n p) :
    failStart cause s = setFactor .startFailed cause.number none { s.wentOff with lastFail := some cause } := by
  unfold failStart
  rw [enterOff_off s closed notLearning]

theorem failStart_unsent (cause : StartFailure) (s : State) : Unsent s (failStart cause s) := by
  have gone := enterOff_unsent .off s
  unfold failStart
  generalize enterOff .off s = t at gone ⊢
  have failed : Unsent s { t with lastFail := some cause } := ⟨gone.inbound, gone.canStart⟩
  exact failed.trans (setFactor_routine _ _ _ _).unsent

theorem failLock_unsent (s : State) : Unsent s (failLock s) := by
  have stopped : Unsent s { s with synth := .stopped } := .of_same rfl rfl
  exact (stopped.trans (raise_routine .lockFail _).unsent).trans (failStart_unsent .lock _)

/-- R1, R187: the lock timer runs to its moment, where no load ends before it and the flush timer does not run. -/
theorem passLink_toLock {s : State} {n e : Nat} (locking : s.synth = .locking e) (load : ∀ l, s.loader = some l → e ≤ l.expiry)
    (cannotStart : s.canStart = false) : passLink n e s = setNow e s := by
  refine passLink_of_later fun timer d deadline => ?_
  cases timer with
  | lock =>
    have running : s.lockDeadline = some e := by
      unfold State.lockDeadline
      rw [locking]
    exact (Option.some.inj (running.symm.trans deadline)).le
  | load =>
    obtain ⟨l, loading, expiry⟩ := Option.map_eq_some_iff.mp deadline
    exact expiry ▸ load l loading
  | flush =>
    replace deadline : s.flushDeadline = some d := deadline
    rw [State.flushDeadline, cannotStart] at deadline
    cases deadline

theorem takeTimer_lock {s : State} {e : Nat} (locking : s.synth = .locking e) (load : ∀ l, s.loader = some l → e ≤ l.expiry)
    (rest : s.AtRest) : takeTimer .lock s = failLock (setNow e s) := by
  have running (u : State) (same : u.synth = s.synth) : LinkTimer.lock.deadline u = some e := by
    show u.lockDeadline = some e
    unfold State.lockDeadline
    rw [same, locking]
  have passed : passLink passFuel e s = setNow e s := passLink_toLock locking load rest.cannotStart
  have twice : setNow e (setNow e s) = setNow e s := by simp only [setNow, max_assoc, max_self]
  unfold takeTimer
  simp only [running s rfl, passed]
  refine (if_pos (running (setNow e s) rfl)).trans ?_
  show finish (failLock (setNow e (setNow e s))) = _
  rw [twice]
  have kept : Unsent s (setNow e s) := .of_same rfl rfl
  exact finish_unsent (kept.trans (failLock_unsent _)) rest

/-- Settles O39: at its moment the lock timer stops the synthesizer and fails the start; without LOCKING it does not run. -/
theorem lockTimerExpiryFailsStart : Obligations.LockTimerExpiryFailsStart := by
  refine fun s => ⟨fun other => ?_, fun e t rest locking starting closed load => ?_⟩
  · have idle : LinkTimer.lock.deadline s = none := by
      show s.lockDeadline = none
      unfold State.lockDeadline
      split
      · next e locking => exact absurd locking (other e)
      all_goals rfl
    show Host.Outcome.next (takeTimer .lock s) = _
    unfold takeTimer
    rw [idle]
  · show Host.Outcome.next (takeTimer .lock s) = _
    rw [takeTimer_lock locking load rest]
    refine congrArg Host.Outcome.next (failStart_eq .lock (fun ch => ?_) fun n p learning => ?_)
    · rw [raise, setFactor_dets]
      exact closed ch
    · rw [raise, setFactor_acq] at learning
      cases starting.symm.trans learning

/-! ## Expiries of one channel -/

theorem rearmDue_iff {ch : Channel} {s : State} : rearmDue ch s = true ↔ s.dets[ch].machine = .rearmHold ∧ s.dets[ch].rearm = 0 := by
  simp only [rearmDue, Detector.rearmDue, Bool.and_eq_true, beq_iff_eq, decide_eq_true_eq]

theorem laneSettleDue_iff {ch : Channel} {s : State} :
    laneSettleDue ch s = true ↔ s.lanes[ch].state = .settling ∧ s.lanes[ch].settleLength ≤ s.lanes[ch].settleTicks := by
  simp only [laneSettleDue, Lane.settleDue, Bool.and_eq_true, beq_iff_eq, decide_eq_true_eq]

theorem syncTimeoutDue_iff {ch : Channel} {s : State} :
    syncTimeoutDue ch s = true ↔ s.lanes[ch].state = .syncing ∧ 4000 ≤ s.lanes[ch].syncTicks := by
  simp only [syncTimeoutDue, Lane.syncDue, Bool.and_eq_true, beq_iff_eq, decide_eq_true_eq]
  rfl

/-- R51, R57: the end of a rearm hold without a waiting entry. -/
theorem endRearm_none {ch : Channel} {s : State} (none : s.dets[ch].waiting = none) :
    endRearm ch s = { s with dets := upd s.dets ch fun d => { d with machine := .idle } } := by
  have same : (s.modDet ch fun d => { d with machine := .idle }).dets[ch].waiting = s.dets[ch].waiting := by
    simp only [State.modDet, upd_same]
  unfold endRearm applyWaiting
  rw [same, none]
  rfl

/-- R51, R57, R58: the end of a rearm hold applies the waiting entry. -/
theorem endRearm_some {ch : Channel} {e : ChannelEntry} {s : State} (some : s.dets[ch].waiting = some e) :
    endRearm ch s =
      { s with
        dets := upd s.dets ch fun d => { Detector.given e d with machine := if e.enabled then .idle else .blocked }
        lanes := upd s.lanes ch fun l =>
          if e.enabled then if s.synth = .locked ∧ s.acq ≠ .off ∧ l.state = .off then l.toSyncing else l else l.toOff } := by
  have same : (s.modDet ch fun d => { d with machine := .idle }).dets[ch].waiting = s.dets[ch].waiting := by
    simp only [State.modDet, upd_same]
  unfold endRearm applyWaiting
  rw [same, some]
  simp only [applyEntry_eq, State.withChannels, State.modDet, upd_upd]
  cases on : e.enabled with
  | false => rfl
  | true =>
    congr 1
    refine upd_congr s.lanes ch ?_
    simp only [Lane.follow, State.ticking, if_true, Bool.and_eq_true, beq_iff_eq, bne_iff_ne, and_assoc]

/-- Settles O43: each expiry does its work where it is due and nothing elsewhere. -/
theorem channelExpiries : Obligations.ChannelExpiries := by
  intro s ch d l
  refine ⟨fun early => ?_, fun early => ?_, fun early => ?_, fun rest => ⟨fun hold ended => ⟨fun none => ?_, fun e some => ?_⟩,
    fun settling ended => ?_, fun syncing ended => ?_⟩⟩
  · exact congrArg Host.Outcome.next (takeDue_notDue (mt rearmDue_iff.mp early))
  · exact congrArg Host.Outcome.next (takeDue_notDue (mt laneSettleDue_iff.mp early))
  · exact congrArg Host.Outcome.next (takeDue_notDue (mt syncTimeoutDue_iff.mp early))
  · have effect := endRearm_none none
    refine congrArg Host.Outcome.next ((takeDue_atRest (rearmDue_iff.mpr ⟨hold, ended⟩) rest ?_).trans effect)
    exact effect ▸ .of_same rfl rfl
  · have effect := endRearm_some some
    refine congrArg Host.Outcome.next ((takeDue_atRest (rearmDue_iff.mpr ⟨hold, ended⟩) rest ?_).trans effect)
    exact effect ▸ .of_same rfl rfl
  · exact congrArg Host.Outcome.next (takeDue_atRest (laneSettleDue_iff.mpr ⟨settling, ended⟩) rest (.of_same rfl rfl))
  · exact congrArg Host.Outcome.next
      (takeDue_atRest (syncTimeoutDue_iff.mpr ⟨syncing, ended⟩) rest (failSync_routine ch s).unsent)

end Sys2Proof.Machine
end

section
/-! R67, R127 to R130, R194 to R198, R20, R21: group summaries and settings (O60), the interval timer's expiry (O48) and the pressure lane
(O49). -/

namespace Sys2Proof.Machine

/-! ## Group summaries -/

/-- Two sets of bits have a bit in common. -/
theorem and_bne_zero_iff {w : Nat} (x y : BitVec w) :
    (x &&& y != 0) = true ↔ ∃ i < w, x.getLsbD i = true ∧ y.getLsbD i = true := by
  rw [bne_iff_ne, ne_eq, BitVec.eq_of_getLsbD_eq_iff]
  simp only [BitVec.getLsbD_and, BitVec.ofNat_eq_ofNat, BitVec.getLsbD_zero, Bool.and_eq_false_iff, not_forall, not_or,
    Bool.not_eq_false, exists_prop]

/-- R196: a summary looks at each entry of its group, its latched bit and its enable. -/
theorem Conditions.summary_iff (c : Conditions) (g : Group) :
    c.summary g = true ↔ ∃ f : Factor, f.group = g ∧ c.factors.get f = true ∧ c.enables.get f = true := by
  constructor
  · intro on
    cases g <;> simp only [Conditions.summary, Bool.or_eq_true, and_bne_zero_iff] at on
    case clock =>
      obtain ⟨i, bound, set, enabled⟩ := on
      match i, bound with
      | 0, _ => exact ⟨.lockFail, rfl, set, enabled⟩
      | 1, _ => exact ⟨.lockLost, rfl, set, enabled⟩
    case acq =>
      obtain ⟨i, bound, set, enabled⟩ := on
      match i, bound with
      | 0, _ => exact ⟨.stateReached, rfl, set, enabled⟩
      | 1, _ => exact ⟨.startFailed, rfl, set, enabled⟩
      | 2, _ => exact ⟨.aborted, rfl, set, enabled⟩
    case lane =>
      obtain (⟨i, bound, set, enabled⟩ | ⟨i, bound, set, enabled⟩) | ⟨i, bound, set, enabled⟩ := on
      · exact ⟨.laneFault ⟨i, bound⟩, rfl, set, enabled⟩
      · exact ⟨.noisy ⟨i, bound⟩, rfl, set, enabled⟩
      · exact ⟨.continuous ⟨i, bound⟩, rfl, set, enabled⟩
    case flow =>
      obtain ⟨i, bound, set, enabled⟩ := on
      match i, bound with
      | 0, _ => exact ⟨.shedChanged, rfl, set, enabled⟩
      | 1, _ => exact ⟨.hitLoss, rfl, set, enabled⟩
      | 2, _ => exact ⟨.eventLoss, rfl, set, enabled⟩
    case table =>
      obtain ⟨i, bound, set, enabled⟩ := on
      match i, bound with
      | 0, _ => exact ⟨.loadDone, rfl, set, enabled⟩
      | 1, _ => exact ⟨.loadAbandoned, rfl, set, enabled⟩
      | 2, _ => exact ⟨.lockChanged, rfl, set, enabled⟩
    case zone =>
      obtain ⟨i, bound, set, enabled⟩ := on
      exact ⟨.holdActivity ⟨i, bound⟩, rfl, set, enabled⟩
    case link =>
      obtain ⟨i, bound, set, enabled⟩ := on
      match i, bound with
      | 0, _ => exact ⟨.frameError, rfl, set, enabled⟩
      | 1, _ => exact ⟨.requestDropped, rfl, set, enabled⟩
  · rintro ⟨f, rfl, set, enabled⟩
    cases f <;> simp only [Factor.group, Conditions.summary, Bool.or_eq_true, and_bne_zero_iff]
    case lockFail | stateReached | shedChanged | loadDone | frameError => exact ⟨0, by decide, set, enabled⟩
    case lockLost | startFailed | hitLoss | loadAbandoned | requestDropped => exact ⟨1, by decide, set, enabled⟩
    case aborted | eventLoss | lockChanged => exact ⟨2, by decide, set, enabled⟩
    case laneFault i => exact .inl (.inl ⟨i, i.isLt, set, enabled⟩)
    case noisy i => exact .inl (.inr ⟨i, i.isLt, set, enabled⟩)
    case continuous i => exact .inr ⟨i, i.isLt, set, enabled⟩
    case holdActivity z => exact ⟨z, z.isLt, set, enabled⟩

/-! ## Settings -/

/-- R194: a setting sets its own entry and moves no other. -/
theorem setFactor_get (f other : Factor) (index : Nat) (reached : Option Nat) (s : State) :
    (setFactor f index reached s).cond.factors.get other = (s.cond.factors.get other || other == f) := by
  cases latched : s.cond.factors.get f with
  | true =>
    rw [setFactor_of_set latched]
    by_cases same : other = f
    · rw [same, latched]
      rfl
    · rw [beq_false_of_ne same, Bool.or_false]
  | false =>
    rw [setFactor_of_clear latched]
    split <;> exact (FactorBits.get_on _ _ _).trans (Bool.or_comm _ _)

theorem setFactor_enables (f : Factor) (index : Nat) (reached : Option Nat) (s : State) :
    (setFactor f index reached s).cond.enables = s.cond.enables ∧
      (setFactor f index reached s).cond.groupEnables = s.cond.groupEnables :=
  ⟨(setFactor_booked f index reached s).enables, (setFactor_booked f index reached s).groupEnables⟩

/-- Settles O60: the summaries bit by bit; a setting entry by entry, and its notice. -/
theorem summariesFollowEnabledFactors : Obligations.SummariesFollowEnabledFactors := by
  refine ⟨Conditions.summary_iff, fun s f other index reached => ⟨setFactor_get f other index reached s, setFactor_enables f index reached s⟩,
    ?_, fun s f => ?_⟩
  · intro s f index reached group latched notice enabled queues
    have number : f.group.number = group := by cases f <;> rfl
    have edge : s.noticesEdge f = true ↔ enabled ∧ queues := by rw [State.noticesEdge_iff, number]
    refine ⟨setFactor_of_set, fun clear not => ?_, fun clear on room => ?_⟩
    · rw [setFactor_of_clear clear, if_neg (mt edge.mp not)]
      rfl
    · rw [setFactor_of_clear clear, if_pos (edge.mpr ⟨on, room⟩)]
      rfl
  · cases f <;> rfl

/-! ## The interval timer -/

theorem backgroundLevel_of_count {sum : BitVec 48} {count lsb : Nat} (some : count ≠ 0) :
    backgroundLevel sum count lsb = ladderLevel (sum.toNat / count) lsb := by
  unfold backgroundLevel meanMagnitude
  rw [if_neg some]

theorem State.pStale_eq (s : State) : s.pStale = decide (s.pl.state = .stale) := by
  unfold State.pStale
  cases s.pl.state <;> rfl

theorem intervalDue_iff {s : State} : s.intervalDue = true ↔ ∃ p, s.timer.period = some p ∧ p ≤ s.timer.ticks := by
  unfold State.intervalDue
  cases s.timer.period <;> simp

/-- R129: an absent mean gives no level. -/
theorem intervalChannel_eq (s : State) (ch : Channel) : intervalChannel s ch =
    { aslDb := if s.timer.figures[ch].aslCount = 0 then none
               else some (ladderLevel (s.timer.figures[ch].aslSum.toNat / s.timer.figures[ch].aslCount) s.dets[ch].active.lsbNv),
      opened := s.timer.figures[ch].opened, lost := s.timer.figures[ch].lost } := by
  unfold intervalChannel
  simp only
  split
  · rfl
  · next some => rw [backgroundLevel_of_count some]

/-- Settles O48: an interval that has ended leaves its record; one that has not is left alone. -/
theorem intervalExpiryBuildsRecord : Obligations.IntervalExpiryBuildsRecord := by
  intro s
  refine ⟨fun early => ?_, ?_⟩
  · refine congrArg Host.Outcome.next (takeDue_notDue fun ended => ?_)
    obtain ⟨p, period, passed⟩ := intervalDue_iff.mp ended
    exact absurd (early p period) (Nat.not_lt.mpr passed)
  · intro p rest period passed record
    have built : intervalRecord s = record := by
      unfold intervalRecord State.lastTickTime
      rw [show intervalChannel s = _ from funext (intervalChannel_eq s), State.pStale_eq]
    refine congrArg Host.Outcome.next ((takeDue_atRest (intervalDue_iff.mpr ⟨p, period, passed⟩) rest (.of_same rfl rfl)).trans ?_)
    rw [← period, ← built]
    rfl

/-! ## The pressure lane -/

theorem plSlotDue_iff {s : State} : s.plSlotDue = true ↔ s.synth = .locked ∧ 1000 ≤ s.pl.slotTicks := by
  simp only [State.plSlotDue, State.ticking, Bool.and_eq_true, beq_iff_eq, decide_eq_true_eq]
  rfl

/-- R20: the end of a slot that a good word has filled. -/
theorem endSlot_filled {s : State} (filled : s.pl.slotFilled = true) :
    endSlot s = { s with pl := { s.pl with slotTicks := 0, slotFilled := false } } := by
  unfold endSlot
  simp only [filled, Bool.not_true, Bool.false_and, if_true, Bool.false_eq_true, if_false]

/-- R20, R21: the end of an unfilled slot. -/
theorem endSlot_missing {s : State} (missing : s.pl.slotFilled = false) :
    endSlot s =
      if 50 ≤ min (s.pl.missingRun + 1) 50 ∧ s.pl.state ≠ .stale then
        setFactor (.laneFault 16) 16 none
          { s with pl := { s.pl with slotTicks := 0, missingRun := min (s.pl.missingRun + 1) 50, state := .stale } }
      else { s with pl := { s.pl with slotTicks := 0, missingRun := min (s.pl.missingRun + 1) 50 } } := by
  have cond : (!s.pl.slotFilled && decide (staleRun ≤ min (s.pl.missingRun + 1) staleRun) && s.pl.state != .stale) = true ↔
      50 ≤ min (s.pl.missingRun + 1) 50 ∧ s.pl.state ≠ .stale := by
    simp [missing, staleRun]
  unfold endSlot
  by_cases stale : 50 ≤ min (s.pl.missingRun + 1) 50 ∧ s.pl.state ≠ .stale
  · rw [if_pos stale]
    simp only [missing, Bool.not_false, Bool.true_and, Bool.false_eq_true, if_false] at cond ⊢
    simp only [cond.mpr stale, if_true]
    rfl
  · rw [if_neg stale]
    simp only [missing, Bool.not_false, Bool.true_and, Bool.false_eq_true, if_false] at cond ⊢
    simp only [mt cond.mp stale]
    rfl

theorem endSlot_unsent (s : State) : Unsent s (endSlot s) := by
  cases filled : s.pl.slotFilled with
  | true => exact endSlot_filled filled ▸ .of_same rfl rfl
  | false =>
    rw [endSlot_missing filled]
    split
    · refine Unsent.trans ?_ (setFactor_routine _ _ _ _).unsent
      exact .of_same rfl rfl
    · exact .of_same rfl rfl

theorem exec_pressureWord {s : State} (word : PressureWord) (rest : s.AtRest) (locked : s.synth = .locked) :
    exec (.pressureWord word) s = .next (takePressureWord word s) := by
  have kept : Unsent s (takePressureWord word s) := by
    unfold takePressureWord
    split
    · split <;> exact .of_same rfl rfl
    · exact .of_same rfl rfl
  exact (if_pos (ticking_iff.mpr locked)).trans (congrArg Host.Outcome.next (finish_unsent kept rest))

/-- Settles O49: each word and each slot end by the filling of the slot. -/
theorem pressureLaneEvents : Obligations.PressureLaneEvents := by
  intro s
  refine ⟨fun early => ?_, fun word idle => ?_, fun rest locked => ⟨?_, fun word surplus => ?_, fun passed => ?_⟩⟩
  · refine congrArg Host.Outcome.next (takeDue_notDue fun ended => ?_)
    obtain ⟨locked, passed⟩ := plSlotDue_iff.mp ended
    exact early.elim (· locked) (Nat.not_lt.mpr passed)
  · exact if_neg (mt ticking_iff.mp idle)
  · intro code unfilled sum kpa
    refine (exec_pressureWord _ rest locked).trans (congrArg Host.Outcome.next ?_)
    exact if_neg (by simp [unfilled])
  · refine (exec_pressureWord _ rest locked).trans (congrArg Host.Outcome.next ?_)
    cases word with
    | malformed => rfl
    | wellFormed code => exact if_pos (surplus.resolve_left nofun)
  · have ends : exec .plSlotEnd s = .next (endSlot s) :=
      congrArg Host.Outcome.next (takeDue_atRest (plSlotDue_iff.mpr ⟨locked, passed⟩) rest (endSlot_unsent s))
    refine ⟨fun filled => by rw [ends, endSlot_filled filled], fun missing => ⟨fun goesOn => ?_, fun fifty live => ?_⟩⟩
    all_goals rw [ends, endSlot_missing missing]
    · refine congrArg Host.Outcome.next (if_neg ?_)
      rintro ⟨fifty, live⟩
      exact goesOn.elim (fun few => by omega) live
    · exact congrArg Host.Outcome.next (if_pos ⟨by omega, live⟩)

end Sys2Proof.Machine
end

section
/-! R32, R60, R6, R42: the end of a learning period (O45), and rows of lanes that are OFF (O41). -/

namespace Sys2Proof.Machine

/-! ## The end of a learning period -/

theorem learningDue_iff {s : State} : s.learningDue = true ↔ ∃ n p, s.acq = .learning n p ∧ p ≤ n := by
  unfold State.learningDue
  cases s.acq <;> simp

/-- R60: what the end of a learning period has made of the channels of a list. -/
structure Learnt (chs : List Channel) (s t : State) : Prop where
  eq : t = { s with
    dets := t.dets
    cond := { s.cond with factors := t.cond.factors }
    rq := { s.rq with notices := t.rq.notices } }
  dets : ∀ ch : Channel, t.dets[ch] = if ch ∈ chs then s.dets[ch].learned else s.dets[ch]
  factors : ∀ f, t.cond.factors.get f = true ↔
    s.cond.factors.get f = true ∨ ∃ ch ∈ chs, f = .noisy ch ∧ s.dets[ch].learned.noisy = true

/-- R194: a setting writes the latched factors and the Notice Queue. -/
theorem setFactor_same (f : Factor) (index : Nat) (reached : Option Nat) (s : State) :
    setFactor f index reached s = { s with
      cond := { s.cond with factors := (setFactor f index reached s).cond.factors }
      rq := { s.rq with notices := (setFactor f index reached s).rq.notices } } := by
  obtain ⟨fs, ns, set, -⟩ := setFactor_frame f index reached s
  rw [set]
  rfl

theorem learnChannel_learnt (ch : Channel) (s : State) : Learnt [ch] s (learnChannel ch s) := by
  have learned : (s.modDet ch Detector.learned).dets[ch] = s.dets[ch].learned := upd_same _ _ _
  have dets (j : Channel) : (s.modDet ch Detector.learned).dets[j] = if j ∈ [ch] then s.dets[j].learned else s.dets[j] := by
    simp only [State.modDet, upd_get, List.mem_singleton, eq_comm (a := ch)]
  unfold learnChannel
  simp only [learned]
  split
  · next noisy =>
    refine ⟨?_, fun j => ?_, fun f => ?_⟩
    · unfold raise
      obtain ⟨fs, ns, set, -⟩ := setFactor_frame (.noisy ch) (Factor.noisy ch).index none (s.modDet ch Detector.learned)
      rw [set]
      rfl
    · rw [raise, setFactor_dets, dets]
    · rw [raise, setFactor_get, Bool.or_eq_true, beq_iff_eq]
      refine or_congr Iff.rfl ⟨fun same => ⟨ch, .head _, same, noisy⟩, ?_⟩
      rintro ⟨j, mem, same, -⟩
      rw [same, List.mem_singleton.mp mem]
  · next quiet =>
    refine ⟨rfl, dets, fun f => ⟨.inl, ?_⟩⟩
    rintro (set | ⟨j, mem, -, noisy⟩)
    · exact set
    · exact absurd (List.mem_singleton.mp mem ▸ noisy) quiet

theorem Learnt.cons {ch : Channel} {chs : List Channel} {s t u : State} (h : Learnt [ch] s t) (k : Learnt chs t u) (new : ch ∉ chs) :
    Learnt (ch :: chs) s u := by
  have same (j : Channel) (mem : j ∈ chs) : t.dets[j] = s.dets[j] := by
    rw [h.dets, if_neg]
    exact fun here => new (List.mem_singleton.mp here ▸ mem)
  refine ⟨?_, fun j => ?_, fun f => ?_⟩
  · rw [k.eq, h.eq]
  · by_cases mem : j ∈ chs
    · simp only [k.dets, mem, List.mem_cons, or_true, if_true, same j mem]
    · simp only [k.dets, h.dets, mem, List.mem_cons, List.not_mem_nil, or_false, if_false]
  · rw [k.factors, h.factors]
    constructor
    · rintro ((set | ⟨j, mem, named, noisy⟩) | ⟨j, mem, named, noisy⟩)
      · exact .inl set
      · exact .inr ⟨j, List.mem_singleton.mp mem ▸ .head _, named, noisy⟩
      · exact .inr ⟨j, .tail _ mem, named, same j mem ▸ noisy⟩
    · rintro (set | ⟨j, mem, named, noisy⟩)
      · exact .inl (.inl set)
      · rcases List.mem_cons.mp mem with here | later
        · exact .inl (.inr ⟨j, List.mem_singleton.mpr here, named, noisy⟩)
        · exact .inr ⟨j, later, named, (same j later).symm ▸ noisy⟩

theorem learnAll_learnt {chs : List Channel} (distinct : chs.Nodup) (s : State) :
    Learnt chs s (chs.foldl (fun s ch => learnChannel ch s) s) := by
  induction chs generalizing s with
  | nil =>
    refine ⟨rfl, fun _ => (if_neg (List.not_mem_nil)).symm, fun _ => ⟨.inl, ?_⟩⟩
    rintro (set | ⟨_, mem, -⟩)
    · exact set
    · cases mem
  | cons ch chs ih =>
    obtain ⟨new, distinct⟩ := List.nodup_cons.mp distinct
    exact (learnChannel_learnt ch s).cons (ih distinct (learnChannel ch s)) new

/-- R60: what a learning period makes of a detector. -/
theorem Detector.learned_eq (d : Detector) : ∃ noise : Option Nat,
    d.learned = { d with
      noise := noise
      thrDb := thrDbOf d.active noise
      thrCode := thrCodeOf (thrDbOf d.active noise) d.active.lsbNv } ∧
    (d.learnCover = false → noise = none) ∧
    (d.learnCover = true → d.learnCount ≠ 0 → noise = some (ladderLevel (d.learnSum.toNat / d.learnCount) d.active.lsbNv)) := by
  refine ⟨_, rfl, fun gap => ?_, fun covered counted => ?_⟩
  · rw [gap]
    rfl
  · rw [covered, backgroundLevel_of_count counted]
    rfl

theorem Detector.noisy_iff (d : Detector) : d.noisy = true ↔ ∃ level, d.noise = some level ∧ d.thrDb < level + 6 := by
  unfold Detector.noisy
  cases d.noise <;> simp

theorem noisy_injective (a b : Channel) : Factor.noisy a = .noisy b ↔ a = b := by
  rw [Factor.noisy.injEq]

/-- Settles O45: the channels' turns one after another, and the arrival in ARMED. -/
theorem learningEndArms : Obligations.LearningEndArms := by
  intro s
  refine ⟨fun early => ?_, fun n p rest acq passed => ?_⟩
  · refine congrArg Host.Outcome.next (takeDue_notDue fun ended => ?_)
    obtain ⟨n, p, acq, passed⟩ := learningDue_iff.mp ended
    exact absurd (early n p acq) (Nat.not_lt.mpr passed)
  · have learnt := learnAll_learnt channels_nodup s
    have unsent : Unsent s (endLearning s) := by
      unfold endLearning enterArmed
      generalize channels.foldl (fun s ch => learnChannel ch s) s = u at learnt ⊢
      refine Unsent.trans (t := { u with acq := .armed, guard := tabulate fun _ => 0 }) ?_ (reachState_routine _).unsent
      rw [learnt.eq]
      exact ⟨id, rfl⟩
    refine ⟨endLearning s,
      congrArg Host.Outcome.next (takeDue_atRest (learningDue_iff.mpr ⟨n, p, acq, passed⟩) rest unsent), ?_⟩
    unfold endLearning enterArmed reachState
    generalize channels.foldl (fun s ch => learnChannel ch s) s = u at learnt ⊢
    have all (ch : Channel) : u.dets[ch] = s.dets[ch].learned := by rw [learnt.dets, if_pos (mem_channels ch)]
    refine ⟨?_, ?_, ?_, fun f other quiet => ?_⟩
    · rw [setFactor_dets]
      refine (setFactor_same _ _ _ _).trans ?_
      generalize setFactor _ _ _ _ = t
      rw [learnt.eq]
    · intro ch d
      obtain ⟨noise, learned, uncovered, covered⟩ := Detector.learned_eq d
      refine ⟨noise, ?_, uncovered, covered, ?_⟩
      · rw [setFactor_dets, all, learned]
      · rw [setFactor_get, setFactor_dets]
        simp only [all, show s.dets[ch].learned = _ from learned]
        have noisy := Detector.noisy_iff d.learned
        rw [learned] at noisy
        rw [show (Factor.noisy ch == .stateReached) = false from rfl, Bool.or_false]
        refine (learnt.factors _).trans (or_congr Iff.rfl (Iff.trans ⟨?_, ?_⟩ noisy))
        · rintro ⟨j, -, same, noisy⟩
          obtain rfl := (noisy_injective _ _).mp same
          exact (congrArg Detector.noisy learned).symm.trans noisy
        · exact fun noisy => ⟨ch, mem_channels ch, rfl, (congrArg Detector.noisy learned).trans noisy⟩
    · rw [setFactor_get]
      exact Bool.or_true _
    · rw [setFactor_get, beq_false_of_ne other, Bool.or_false]
      refine Bool.eq_iff_iff.mpr ((learnt.factors f).trans (or_iff_left ?_))
      rintro ⟨ch, -, same, -⟩
      exact quiet ch same

end Sys2Proof.Machine
end

section
/-! What the work on hits, records, contexts and detectors leaves as it was: the pretrigger rings, the order of the send list, and what
the lanes have counted. -/

namespace Sys2Proof.Machine

/-! ## The relation -/

/-- What no application of an entry writes of a lane. -/
structure LaneRecord where
  lastFault : Option LaneCause
  held : Sample
  framingErrors : Counter
  faultEntries : Counter
  tickNumber : BitVec 48
  declared : Bool

/-- That part of a lane. -/
def Lane.record (l : Lane) : LaneRecord :=
  { lastFault := l.lastFault, held := l.held, framingErrors := l.framingErrors, faultEntries := l.faultEntries,
    tickNumber := l.tickNumber, declared := l.declared }

/-- A lane that goes on, or is sent to OFF or to SYNCING: its records stay, and its sync search has not come to its end by that. -/
structure Lane.GoesOn (l l' : Lane) : Prop where
  record : l'.record = l.record
  searching : l'.syncDue = true → l.syncDue = true

theorem Lane.GoesOn.refl (l : Lane) : l.GoesOn l := ⟨rfl, id⟩

theorem Lane.GoesOn.trans {l l' l'' : Lane} (h : l.GoesOn l') (k : l'.GoesOn l'') : l.GoesOn l'' :=
  ⟨k.record.trans h.record, h.searching ∘ k.searching⟩

theorem Lane.toOff_goesOn (l : Lane) : l.GoesOn l.toOff := ⟨rfl, nofun⟩

theorem Lane.toSyncing_goesOn (l : Lane) : l.GoesOn l.toSyncing := ⟨rfl, nofun⟩

theorem Lane.follow_goesOn (enabled : Bool) (a : Acq) (ticking : Bool) (l : Lane) : l.GoesOn (l.follow enabled a ticking) := by
  unfold Lane.follow
  split
  · split
    · exact l.toSyncing_goesOn
    · exact .refl l
  · exact l.toOff_goesOn

/-- The work on hits, records, contexts and detectors. -/
structure HandsOn (s t : State) : Prop where
  rings : t.wave.rings = s.wave.rings
  sendList : s.wave.sendList <+: t.wave.sendList
  lanes : ∀ ch : Channel, s.lanes[ch].GoesOn t.lanes[ch]

theorem HandsOn.refl (s : State) : HandsOn s s := ⟨rfl, List.prefix_rfl, fun _ => .refl _⟩

theorem HandsOn.trans {s t u : State} (h : HandsOn s t) (k : HandsOn t u) : HandsOn s u :=
  ⟨k.rings.trans h.rings, h.sendList.trans k.sendList, fun ch => (h.lanes ch).trans (k.lanes ch)⟩

theorem HandsOn.foldl {α : Type} {f : State → α → State} (h : ∀ s a, HandsOn s (f s a)) (as : List α) (s : State) :
    HandsOn s (as.foldl f s) := by
  induction as generalizing s with
  | nil => exact .refl s
  | cons a as ih => exact (h s a).trans (ih _)

/-- Work that leaves the lanes alone, and of the Waveform Store the rings and the send list. -/
theorem HandsOn.of_lanes {s t : State} (rings : t.wave.rings = s.wave.rings) (sendList : t.wave.sendList = s.wave.sendList)
    (lanes : t.lanes = s.lanes) : HandsOn s t :=
  ⟨rings, by rw [sendList], fun ch => by rw [lanes]; exact .refl _⟩

/-- Work that writes neither the Waveform Store nor a lane. -/
theorem HandsOn.of_same {s t : State} (wave : t.wave = s.wave) (lanes : t.lanes = s.lanes) : HandsOn s t :=
  .of_lanes (by rw [wave]) (by rw [wave]) lanes

/-! ## The Waveform Store -/

theorem setFactor_handsOn (f : Factor) (index : Nat) (reached : Option Nat) (s : State) : HandsOn s (setFactor f index reached s) :=
  .of_same (setFactor_wave f index reached s) (setFactor_booked f index reached s).lanes

theorem raise_handsOn (f : Factor) (s : State) : HandsOn s (raise f s) := setFactor_handsOn f _ _ s

theorem evalShed_handsOn (s : State) : HandsOn s (evalShed s) := .of_same (evalShed_wave s) (evalShed_booked s).lanes

theorem put_handsOn (i : Fin 64) (g : Option Segment) (s : State) : HandsOn s (s.modWave fun w => w.put i g) :=
  .of_lanes rfl rfl rfl

theorem freeSegment_handsOn (i : Fin 64) (s : State) : HandsOn s (freeSegment i s) := by
  refine HandsOn.trans ?_ (evalShed_handsOn _)
  exact .of_lanes rfl rfl rfl

theorem freeSegmentOf_handsOn (ch : Channel) (hitId : Counter) (s : State) : HandsOn s (freeSegmentOf ch hitId s) := by
  unfold freeSegmentOf
  split
  · exact .refl s
  · exact freeSegment_handsOn _ s

theorem segmentLeavesContext_handsOn (ch : Channel) (hitId : Counter) (s : State) : HandsOn s (segmentLeavesContext ch hitId s) := by
  unfold segmentLeavesContext
  split
  · exact .refl s
  · split
    · split
      · exact freeSegment_handsOn _ s
      · exact .refl s
    · exact .refl s

theorem segmentFill_handsOn (ch : Channel) (hitId : Counter) (smp : Sample) (s : State) : HandsOn s (segmentFill ch hitId smp s) := by
  unfold segmentFill
  split
  · exact .refl s
  · split
    · split
      · exact put_handsOn _ _ s
      · exact .refl s
    · exact .refl s

theorem segmentFillEnd_handsOn (ch : Channel) (hitId : Counter) (s : State) : HandsOn s (segmentFillEnd ch hitId s) := by
  unfold segmentFillEnd
  split
  · exact .refl s
  · split
    · simp only
      split
      · exact (put_handsOn _ _ s).trans (evalShed_handsOn _)
      · exact .refl s
    · exact .refl s

theorem segmentWait_handsOn (ch : Channel) (hitId : Counter) (s : State) : HandsOn s (segmentWait ch hitId s) := by
  unfold segmentWait
  split
  · exact .refl s
  · split
    · exact put_handsOn _ _ s
    · exact .refl s

theorem segmentAdmitted_handsOn (p : Path) (ch : Channel) (hitId : Counter) (s : State) :
    HandsOn s (segmentAdmitted p ch hitId s).1 := by
  unfold segmentAdmitted
  split
  · exact .refl s
  · split
    · split
      · exact ⟨rfl, List.prefix_append _ _, fun _ => .refl _⟩
      · exact freeSegment_handsOn _ s
    · exact .refl s

theorem decideCapture_handsOn (ch : Channel) (hitId : Counter) (arrival : TestTime) (s : State) :
    HandsOn s (decideCapture ch hitId arrival s) := by
  unfold decideCapture
  simp only
  split
  · exact .refl s
  · split
    · split
      · refine HandsOn.trans ?_ (evalShed_handsOn _)
        exact .of_lanes rfl rfl rfl
      · exact .of_lanes rfl rfl rfl
    · exact .of_lanes rfl rfl rfl

/-! ## Records -/

theorem shedRecord_handsOn (c : ClosedHit) (s : State) : HandsOn s (shedRecord c s) := by
  refine HandsOn.trans ?_ (freeSegmentOf_handsOn c.channel c.hitId _)
  exact .of_same rfl rfl

theorem loseRecord_handsOn (c : ClosedHit) (s : State) : HandsOn s (loseRecord c s) := by
  refine HandsOn.trans (HandsOn.trans ?_ (freeSegmentOf_handsOn c.channel c.hitId _)) (raise_handsOn .hitLoss _)
  exact .of_same rfl rfl

theorem admitRecord_handsOn (p : Path) (c : ClosedHit) (t : EventTag) (s : State) : HandsOn s (admitRecord p c t s) := by
  unfold admitRecord
  simp only
  have admitted := segmentAdmitted_handsOn p c.channel c.hitId (s.modCounts c.channel fun k => { k with gap := 0 })
  generalize segmentAdmitted p c.channel c.hitId (s.modCounts c.channel fun k => { k with gap := 0 }) = r at admitted ⊢
  refine HandsOn.trans ?_ (evalShed_handsOn _)
  exact ⟨admitted.rings, admitted.sendList, admitted.lanes⟩

theorem offerStandalone_handsOn (t : EventTag) (c : ClosedHit) (s : State) : HandsOn s (offerStandalone t c s) := by
  unfold offerStandalone
  split
  · exact shedRecord_handsOn c s
  · split
    · exact loseRecord_handsOn c s
    · exact admitRecord_handsOn _ c t s

theorem offerMember_handsOn (eventId : Counter) (c : ClosedHit) (s : State) : HandsOn s (offerMember eventId c s) := by
  unfold offerMember
  split
  · exact loseRecord_handsOn c s
  · exact admitRecord_handsOn _ c _ s

/-! ## Contexts -/

theorem dissolveOpen_handsOn (m : Member) (s : State) : HandsOn s (dissolveOpen m s) := by
  unfold dissolveOpen
  split
  · exact .refl s
  · refine HandsOn.trans ?_ (segmentLeavesContext_handsOn m.channel m.hitId _)
    exact .of_same rfl rfl

theorem dissolve_handsOn (k : Fin 4) (members : List Member) (s : State) : HandsOn s (dissolve k members s) := by
  have freed : HandsOn s (if members.isEmpty then s.putContext k none
      else (s.putContext k none).modAsm fun a => { a with eventsDissolved := a.eventsDissolved + 1 }) := by
    split <;> exact .of_same rfl rfl
  exact (freed.trans (HandsOn.foldl (fun u c => offerStandalone_handsOn EventTag.none (orphan c) u) _ _)).trans
    (HandsOn.foldl (fun u m => dissolveOpen_handsOn m u) members _)

theorem zoneRule_handsOn (z : Zone) (s : State) : HandsOn s (zoneRule z s) := by
  unfold zoneRule
  simp only
  split
  · split
    · refine HandsOn.trans ?_ (raise_handsOn _ _)
      exact .of_same rfl rfl
    · exact .of_same rfl rfl
  · exact .refl s

theorem handMembers_handsOn (eventId : Counter) (hits : List ClosedHit) (s : State) : HandsOn s (handMembers eventId hits s) := by
  unfold handMembers
  split
  · exact HandsOn.foldl (fun u c => offerMember_handsOn eventId c u) hits s
  · exact HandsOn.foldl (fun u c => shedRecord_handsOn c u) hits s

theorem queueEvent_handsOn (r : EventRecord) (hits : List ClosedHit) (s : State) : HandsOn s (queueEvent r hits s) := by
  unfold queueEvent
  simp only
  have handed := handMembers_handsOn r.eventId hits
    (({ s with rq := { s.rq with events := s.rq.events ++ [r] } } : State).modAsm fun a => { a with eventsQueued := a.eventsQueued + 1 })
  generalize handMembers r.eventId hits _ = u at handed ⊢
  refine HandsOn.trans ?_ (zoneRule_handsOn r.zone _)
  exact ⟨handed.rings, handed.sendList, handed.lanes⟩

theorem loseEvent_handsOn (eventId : Counter) (hits : List ClosedHit) (s : State) : HandsOn s (loseEvent eventId hits s) := by
  refine HandsOn.trans (HandsOn.trans ?_ (raise_handsOn .eventLoss _)) (HandsOn.foldl (fun u c => offerStandalone_handsOn _ c u) hits _)
  exact .of_same rfl rfl

theorem complete_handsOn (k : Fin 4) (c : Context) (m1 m2 : Member) (s : State) : HandsOn s (complete k c m1 m2 s) := by
  have taken : HandsOn s ((s.putContext k none).modAsm fun a => { a with nextEvent := a.nextEvent + 1 }) := .of_same rfl rfl
  unfold complete
  simp only
  split
  · exact taken.trans (queueEvent_handsOn _ _ _)
  · exact taken.trans (loseEvent_handsOn _ _ _)

theorem putContext_handsOn (k : Fin 4) (o : Option Context) (s : State) : HandsOn s (s.putContext k o) := .of_same rfl rfl

theorem testComplete_handsOn (k : Fin 4) (c : Context) (s : State) : HandsOn s (testComplete k c s) := by
  unfold testComplete
  split
  · split
    · exact complete_handsOn k c _ _ s
    · exact putContext_handsOn _ _ s
  · exact putContext_handsOn _ _ s

theorem parkMember_handsOn (k : Fin 4) (c : Context) (hit : ClosedHit) (s : State) : HandsOn s (parkMember k c hit s) := by
  have waited := segmentWait_handsOn hit.channel hit.hitId s
  unfold parkMember
  simp only
  cases hit.cause with
  | aborted | clockFault => exact waited.trans (putContext_handsOn _ _ _)
  | normal | truncated | laneFault =>
    simp only
    split
    · exact waited.trans (testComplete_handsOn _ _ _)
    · exact waited.trans (putContext_handsOn _ _ _)

theorem removeMember_handsOn (k : Fin 4) (c : Context) (ch : Channel) (hitId : Counter) (s : State) :
    HandsOn s (removeMember k c ch hitId s) := by
  unfold removeMember
  simp only
  split
  · exact dissolve_handsOn k _ s
  · split
    · split
      · exact dissolve_handsOn k _ s
      · exact testComplete_handsOn k _ s
    · exact putContext_handsOn _ _ s

theorem dissolveAll_handsOn (s : State) : HandsOn s (dissolveAll s) := by
  refine HandsOn.foldl (fun u k => ?_) contextNumbers s
  split
  · exact dissolve_handsOn k _ u
  · exact .refl u

/-! ## Detectors -/

theorem handOn_handsOn (c : ClosedHit) (s : State) : HandsOn s (handOn c s) := by
  have ended := segmentFillEnd_handsOn c.channel c.hitId s
  unfold handOn
  simp only
  generalize segmentFillEnd c.channel c.hitId s = u at ended ⊢
  split
  · have freed : HandsOn u (freeSegmentOf c.channel c.hitId (u.modCounts c.channel fun k => { k with filtered := k.filtered + 1 })) := by
      refine HandsOn.trans ?_ (freeSegmentOf_handsOn _ _ _)
      exact .of_same rfl rfl
    refine ended.trans ?_
    unfold rejectHit
    simp only
    split
    · exact freed
    · split
      · exact freed.trans (removeMember_handsOn _ _ _ _ _)
      · exact freed
  · refine ended.trans ?_
    unfold passHit
    split
    · exact offerStandalone_handsOn _ c u
    · split
      · exact parkMember_handsOn _ _ c u
      · exact offerStandalone_handsOn _ c u

theorem modDet_handsOn (ch : Channel) (f : Detector → Detector) (s : State) : HandsOn s (s.modDet ch f) := .of_same rfl rfl

theorem modLane_handsOn {ch : Channel} {f : Lane → Lane} (goesOn : ∀ l, Lane.GoesOn l (f l)) (s : State) : HandsOn s (s.modLane ch f) := by
  refine ⟨rfl, List.prefix_rfl, fun j => ?_⟩
  show s.lanes[j].GoesOn (upd s.lanes ch f)[j]
  rw [upd_get]
  split
  · exact goesOn _
  · exact .refl _

theorem applyEntry_handsOn (ch : Channel) (e : ChannelEntry) (s : State) : HandsOn s (applyEntry ch e s) := by
  have entered := (modDet_handsOn ch (Detector.withEntry e) s).trans (modLane_handsOn (ch := ch) (Lane.follow_goesOn e.enabled s.acq s.ticking) _)
  unfold applyEntry
  simp only
  split
  · exact entered
  · exact entered.trans (modDet_handsOn ch _ _)

theorem applyWaiting_handsOn (ch : Channel) (s : State) : HandsOn s (applyWaiting ch s) := by
  unfold applyWaiting
  split
  · exact applyEntry_handsOn ch _ s
  · exact .refl s

theorem blockDetector_handsOn (ch : Channel) (s : State) : HandsOn s (blockDetector ch s) := by
  unfold blockDetector
  split
  · exact .refl s
  all_goals exact (modDet_handsOn ch _ s).trans (applyWaiting_handsOn ch _)

theorem continuousRun_handsOn (ch : Channel) (cause : Closure) (s : State) : HandsOn s (continuousRun ch cause s) := by
  unfold continuousRun
  cases cause with
  | truncated =>
    simp only
    split
    · exact (modDet_handsOn ch _ s).trans (raise_handsOn _ _)
    · exact modDet_handsOn ch _ s
  | normal | laneFault | aborted | clockFault => exact modDet_handsOn ch _ s

theorem closeHit_handsOn (ch : Channel) (tick : TestTime) (cause : Closure) (s : State) : HandsOn s (closeHit ch tick cause s) := by
  unfold closeHit
  split
  · have handed (hit : ClosedHit) (f : Detector → Detector) : HandsOn s (continuousRun ch cause (handOn hit (s.modDet ch f))) :=
      ((modDet_handsOn ch f s).trans (handOn_handsOn hit _)).trans (continuousRun_handsOn ch cause _)
    simp only
    split
    · exact handed _ _
    · exact (handed _ _).trans (applyWaiting_handsOn ch _)
  all_goals exact .refl s

theorem detectorOff_handsOn (reason : OffReason) (ch : Channel) (s : State) : HandsOn s (detectorOff reason ch s) := by
  unfold detectorOff
  split
  · exact closeHit_handsOn ch _ _ s
  all_goals exact blockDetector_handsOn ch s

theorem openHit_handsOn (ch : Channel) (smp : Sample) (hitId : Counter) (s : State) : HandsOn s (openHit ch smp hitId s) := by
  unfold openHit
  simp only
  have opened : HandsOn s (({ s with nextHit := advanceHitId hitId } : State).modDet ch fun d =>
      { d with machine := .inHit (openingHit s ch smp hitId), hitsOpened := d.hitsOpened + 1 }) := .of_same rfl rfl
  generalize ({ s with nextHit := advanceHitId hitId } : State).modDet ch _ = u at opened ⊢
  have filled := (opened.trans (decideCapture_handsOn ch hitId u.tt u)).trans (segmentFill_handsOn ch hitId smp _)
  generalize segmentFill ch hitId smp _ = v at filled ⊢
  split <;> exact ⟨filled.rings, filled.sendList, filled.lanes⟩

theorem takeSample_handsOn (ch : Channel) (smp : Sample) (s : State) : HandsOn s (takeSample ch smp s).state := by
  have unblocked := modDet_handsOn ch (Detector.unblock s.acq) s
  unfold takeSample
  simp only
  split
  · refine unblocked.trans ?_
    unfold takeIdle
    split
    · split
      · exact openHit_handsOn ch smp _ _
      · exact .refl _
    · exact .refl _
  · refine unblocked.trans ?_
    unfold takeInHit
    simp only
    have filled (u : State) (k : OpenHit) : HandsOn u (segmentFill ch k.hitId smp (u.modOpen ch fun _ => k)) :=
      (modDet_handsOn ch _ u).trans (segmentFill_handsOn ch k.hitId smp _)
    split
    · exact (filled _ _).trans (closeHit_handsOn ch _ _ _)
    · exact filled _ _
  all_goals exact unblocked

/-! ## The row -/

theorem departLive_handsOn (ch : Channel) (s : State) : HandsOn s (departLive ch s) := by
  unfold departLive
  split
  · exact closeHit_handsOn ch _ _ s
  all_goals exact blockDetector_handsOn ch s

theorem laneFaulted_handsOn (ch : Channel) (wasLive : Bool) (s : State) : HandsOn s (laneFaulted ch wasLive s) := by
  unfold laneFaulted
  simp only
  split
  · exact (raise_handsOn _ s).trans (departLive_handsOn ch _)
  · exact raise_handsOn _ s

theorem learnTick_handsOn (ch : Channel) (delivered : Option Sample) (s : State) : HandsOn s (learnTick ch delivered s) := by
  unfold learnTick
  split
  · exact modDet_handsOn ch _ s
  all_goals exact .refl s

theorem offerOpening_handsOn (ch : Channel) (h : OpenHit) (s : State) : HandsOn s (offerOpening ch h s) := by
  unfold offerOpening
  split
  · exact putContext_handsOn _ _ s
  · split
    · split
      · exact putContext_handsOn _ _ s
      · exact .of_same rfl rfl
    · exact .refl s

theorem judgeOpening_handsOn (ch : Channel) (s : State) : HandsOn s (judgeOpening ch s) := by
  unfold judgeOpening
  split
  · split
    · exact .of_same rfl rfl
    · exact offerOpening_handsOn ch _ s
  all_goals exact .refl s

theorem releaseOpenings_handsOn (openings : List Channel) (s : State) : HandsOn s (releaseOpenings openings s) :=
  HandsOn.foldl (fun u ch => judgeOpening_handsOn ch u) openings s

end Sys2Proof.Machine
end

section
/-! R11, R30: no event but a row brings a sync search to its end. So the searches that have timed out at a tick are taken once, whatever
requests the interpreter takes meanwhile. -/

namespace Sys2Proof.Machine

/-- No sync search has come to its end. -/
def Searching (s t : State) : Prop := ∀ ch : Channel, t.lanes[ch].syncDue = true → s.lanes[ch].syncDue = true

theorem Searching.refl (s : State) : Searching s s := fun _ => id

theorem Searching.trans {s t u : State} (h : Searching s t) (k : Searching t u) : Searching s u := fun ch => h ch ∘ k ch

theorem Searching.of_same {s t : State} (lanes : t.lanes = s.lanes) : Searching s t := fun ch => by rw [lanes]; exact id

theorem HandsOn.searching {s t : State} (h : HandsOn s t) : Searching s t := fun ch => (h.lanes ch).searching

theorem setFactor_searching (f : Factor) (index : Nat) (reached : Option Nat) (s : State) : Searching s (setFactor f index reached s) :=
  (setFactor_handsOn f index reached s).searching

/-! ## The controller -/

theorem enterOff_searching (reason : OffReason) (s : State) : Searching s (enterOff reason s) := by
  unfold enterOff
  simp only
  generalize reason.dissolves _ = u
  intro ch due
  have off : (stopTimer (stopClock u)).lanes[ch] = u.lanes[ch].toOff := tabulate_get _ _
  rw [off] at due
  cases due

theorem enterStandby_searching (s : State) : Searching s (enterStandby s) := by
  rw [enterStandby_eq]
  refine Searching.trans ?_ (setFactor_searching _ _ _ _)
  exact .of_same rfl

theorem checkDrain_searching (s : State) : Searching s (checkDrain s) := by
  unfold checkDrain
  split
  · split
    · unfold reachDrainTarget
      split
      · exact enterStandby_searching s
      · exact (enterOff_searching .off s).trans (setFactor_searching _ _ _ _)
    · exact .refl s
  all_goals exact .refl s

theorem enterDraining_searching (target : DrainTarget) (s : State) : Searching s (enterDraining target s) := by
  unfold enterDraining
  refine Searching.trans ?_ (checkDrain_searching _)
  refine Searching.trans ?_ (HandsOn.foldl (fun u ch => blockDetector_handsOn ch u) channels _).searching
  exact .of_same rfl

theorem enterStarting_searching (target : StartTarget) (s : State) : Searching s (enterStarting target s) := by
  rw [enterStarting_eq]
  exact .of_same rfl

theorem goOff_searching (s : State) : Searching s (goOff s).state := by
  have gone := (enterOff_searching .off s).trans (setFactor_searching .stateReached 0 (some (enterOff .off s).acq.number) _)
  unfold goOff
  split <;> rw [Answer.controlled_state]
  · exact .refl s
  · exact gone
  · exact gone
  · exact gone
  · exact enterDraining_searching .off s
  · exact .of_same rfl
  · exact .refl s

theorem goStandby_searching (s : State) : Searching s (goStandby s).state := by
  unfold goStandby
  split <;> rw [Answer.controlled_state]
  · exact enterStarting_searching .standby s
  · exact .refl s
  · exact .refl s
  · exact .refl s
  · exact .refl s
  · exact enterDraining_searching .standby s
  · exact .refl s
  · exact .refl s

theorem goArmed_searching (s : State) : Searching s (goArmed s).state := by
  unfold goArmed
  split
  · split <;> rw [Answer.controlled_state]
    · exact enterStarting_searching .armed s
    · exact .refl s
    · exact .refl s
    · exact .of_same rfl
    · exact .refl s
    · exact .refl s
    · exact .refl s
  · exact .refl s

theorem judgeGo_searching (args : List Byte) (s : State) : Searching s (judgeGo args s).state := by
  unfold judgeGo
  split
  · split
    · exact goOff_searching s
    · exact goStandby_searching s
    · exact goArmed_searching s
    · exact .refl s
  · exact .refl s

theorem judgeAbort_searching (args : List Byte) (s : State) : Searching s (judgeAbort args s).state := by
  cases args with
  | nil => exact (enterOff_searching .abort s).trans (setFactor_searching _ _ _ _)
  | cons b bs => exact .refl s

/-! ## The loader -/

theorem abandonLoad_searching (s : State) : Searching s (abandonLoad s) := by
  refine Searching.trans ?_ (setFactor_searching _ _ _ _)
  exact .of_same rfl

theorem handEntry_searching (ch : Channel) (s : State) : Searching s (handEntry ch s) := by
  unfold handEntry
  simp only
  split
  · unfold deferEntry
    split
    · exact (applyEntry_handsOn ch _ s).searching
    · exact (applyEntry_handsOn ch _ s).searching
    all_goals exact .of_same rfl
  all_goals exact (applyEntry_handsOn ch _ s).searching

theorem handTable_searching (t : TableId) (first count : Nat) (old : Tables) (s : State) :
    Searching s (handTable t first count old s) := by
  unfold handTable
  split
  · generalize channelsOf first count = chs
    induction chs generalizing s with
    | nil => exact .refl s
    | cons ch chs ih => exact (handEntry_searching ch s).trans (ih _)
  · split
    · unfold retime
      rw [startTimer_eq]
      split <;> exact .of_same rfl
    · exact .refl s
  all_goals exact .refl s

theorem endLoad_searching (l : Load) (s : State) : Searching s (endLoad l s).state := by
  unfold endLoad
  simp only
  split
  · split
    · exact abandonLoad_searching s
    · refine Searching.trans ?_ (setFactor_searching _ _ _ _)
      refine Searching.trans ?_ (handTable_searching _ _ _ _ _)
      exact .of_same rfl
  · exact abandonLoad_searching s

theorem judgeLoadData_searching (args : List Byte) (s : State) : Searching s (judgeLoadData args s).state := by
  have staged (l : Load) (es : List Entry) : Searching s (stageEntries l es s).state := by
    unfold stageEntries
    simp only
    split
    · exact .of_same rfl
    · exact Searching.trans (t := { s with loader := some (l.stage es s.now) }) (.of_same rfl) (endLoad_searching _ _)
  unfold judgeLoadData loadData
  repeat' split
  all_goals first | exact .refl s | exact abandonLoad_searching s | exact staged _ _

theorem lockChanged_searching (lock : Option Counter) (s : State) : Searching s (raise .lockChanged { s with lock := lock }) := by
  refine Searching.trans ?_ (setFactor_searching _ _ _ _)
  exact .of_same rfl

/-! ## The interpreter and the scheduler -/

theorem judgeEmpty_searching {f : State → Answer} {args : List Byte} {s : State} (h : Searching s (f s).state) :
    Searching s (judgeEmpty f args s).state := by
  cases args with
  | nil => exact h
  | cons b bs => exact .refl s

theorem judgeTable_searching {f : TableId → Nat → Nat → State → Answer} (args : List Byte) {s : State}
    (h : ∀ t first count, Searching s (f t first count s).state) : Searching s (judgeTable f args s).state := by
  unfold judgeTable
  split
  · split
    · exact h _ _ _
    · exact .refl s
  · exact .refl s

theorem reset_syncDue : ∀ ch : Channel, State.reset.lanes[ch].syncDue = false := by decide

theorem judge_searching (r : Request) (s : State) : Searching s (judge r s).state := by
  unfold judge
  split
  · exact judgeEmpty_searching (.refl s)
  · exact judgeGo_searching _ s
  · exact judgeAbort_searching _ s
  · refine judgeEmpty_searching ?_
    unfold zeroTime
    split <;> exact .of_same rfl
  · refine judgeTable_searching _ fun t first count => ?_
    unfold loadBegin
    repeat' split
    all_goals exact .of_same rfl
  · exact judgeLoadData_searching _ s
  · refine judgeEmpty_searching ?_
    unfold loadAbort
    split
    · exact abandonLoad_searching s
    · exact .refl s
  · refine judgeTable_searching _ fun t first count => ?_
    unfold readTable
    split <;> exact .refl s
  · refine judgeEmpty_searching ?_
    unfold lockTest
    repeat' split
    all_goals first | exact .refl s | exact lockChanged_searching _ s
  · refine judgeEmpty_searching ?_
    unfold unlockTest
    repeat' split
    all_goals first | exact .refl s | exact lockChanged_searching _ s
  · unfold judgeStatus statusRead
    repeat' split
    all_goals exact .refl s
  · unfold judgeClear
    repeat' split
    all_goals exact .of_same rfl
  · unfold judgeEnables rangeEnables
    repeat' split
    all_goals exact .of_same rfl
  · unfold judgePhase setPhase
    repeat' split
    all_goals exact .of_same rfl
  · exact judgeEmpty_searching (.of_same rfl)
  · exact judgeEmpty_searching fun ch due => absurd ((reset_syncDue ch).symm.trans due) Bool.false_ne_true
  · exact .refl s

theorem schedule_lanes (s : State) : (schedule s).lanes = s.lanes := by
  have evaluated {u : State} (h : u.lanes = s.lanes) : (evalShed u).lanes = s.lanes := (evalShed_booked u).lanes.trans h
  unfold schedule scheduleFrom scheduleNotices scheduleEvents scheduleHits scheduleInterval scheduleWaveform startHits startPiece
  repeat' split
  all_goals first | rfl | exact evaluated rfl

theorem takeRequest_searching (r : Request) (s : State) : Searching s (takeRequest r s) := judge_searching r (countTaken s)

theorem pump_searching (n : Nat) (s : State) : Searching s (pump n s) := by
  induction n generalizing s with
  | zero => exact .of_same (schedule_lanes s)
  | succ n ih =>
    have scheduled : Searching s (schedule s) := .of_same (schedule_lanes s)
    unfold pump
    simp only
    split
    · exact scheduled
    · next r rest _ =>
      split
      · exact scheduled.trans (Searching.trans (fun ch => takeRequest_searching r
          { schedule s with link := { (schedule s).link with inbound := rest } } ch) (ih _))
      · exact scheduled

theorem finish_searching (s : State) : Searching s (finish s) := pump_searching _ s

/-! ## Expiries -/

theorem takeDue_searching {due : State → Bool} {effect : State → State} {s : State} (h : Searching s (effect s)) :
    Searching s (takeDue due effect s) := by
  unfold takeDue
  split
  · exact h.trans (finish_searching _)
  · exact .refl s

theorem takeEach_searching {due : Channel → State → Bool} {effect : Channel → State → State}
    (h : ∀ ch u, Searching u (effect ch u)) (s : State) : Searching s (takeEach due effect s) := by
  unfold takeEach
  generalize channels = chs
  induction chs generalizing s with
  | nil => exact .refl s
  | cons ch chs ih => exact (takeDue_searching (h ch s)).trans (ih _)

theorem modLane_searching {ch : Channel} {f : Lane → Lane} (found : ∀ l, (f l).syncDue = false) (s : State) :
    Searching s (s.modLane ch f) := by
  intro j due
  have changed : (s.modLane ch f).lanes[j] = if ch = j then f s.lanes[j] else s.lanes[j] := upd_get _ _ _ _
  rw [changed] at due
  split at due
  · rw [found] at due
    cases due
  · exact due

theorem failSync_searching (ch : Channel) (s : State) : Searching s (failSync ch s) :=
  (modLane_searching (fun _ => rfl) s).trans (laneFaulted_handsOn ch false _).searching

theorem settleLane_searching (ch : Channel) (s : State) : Searching s (settleLane ch s) := modLane_searching (fun _ => rfl) s

theorem endRearm_searching (ch : Channel) (s : State) : Searching s (endRearm ch s) :=
  ((modDet_handsOn ch _ s).trans (applyWaiting_handsOn ch _)).searching

theorem endSlot_searching (s : State) : Searching s (endSlot s) := by
  cases filled : s.pl.slotFilled with
  | true => exact endSlot_filled filled ▸ .of_same rfl
  | false =>
    rw [endSlot_missing filled]
    split
    · refine Searching.trans ?_ (setFactor_searching _ _ _ _)
      exact .of_same rfl
    · exact .of_same rfl

/-! ## The end of the searches -/

/-- No sync search is over. -/
def State.NoneTimedOut (s : State) : Prop := ∀ ch : Channel, s.lanes[ch].syncDue = false

theorem Searching.noneTimedOut {s t : State} (h : Searching s t) (none : s.NoneTimedOut) : t.NoneTimedOut := by
  intro ch
  rw [← Bool.not_eq_true]
  exact fun due => absurd (h ch due) (by rw [none ch]; exact Bool.false_ne_true)

theorem failSync_lane (ch : Channel) (s : State) : (failSync ch s).lanes[ch] = s.lanes[ch].toFaulted .noSync := by
  have lanes : (failSync ch s).lanes = (s.modLane ch (Lane.toFaulted .noSync)).lanes := (setFactor_booked _ _ _ _).lanes
  rw [lanes]
  exact upd_same _ _ _

/-- R11: a search that is over has ended in a fault once its turn is past. -/
theorem takeSync_ends (ch : Channel) (s : State) : (takeDue (syncTimeoutDue ch) (failSync ch) s).lanes[ch].syncDue = false := by
  unfold takeDue
  split
  · rw [← Bool.not_eq_true]
    intro due
    have faulted := finish_searching _ ch due
    rw [failSync_lane] at faulted
    cases faulted
  · next early => exact Bool.not_eq_true _ ▸ early

theorem takeSyncTimeouts_ends (s : State) : (takeSyncTimeouts s).NoneTimedOut := by
  have turns (chs : List Channel) (s : State) (ch : Channel) (turn : ch ∈ chs) :
      (chs.foldl (fun s ch => takeDue (syncTimeoutDue ch) (failSync ch) s) s).lanes[ch].syncDue = false := by
    induction chs generalizing s with
    | nil => cases turn
    | cons c chs ih =>
      by_cases later : ch ∈ chs
      · exact ih _ later
      · obtain rfl : ch = c := (List.mem_cons.mp turn).resolve_right later
        have rest : Searching (takeDue (syncTimeoutDue ch) (failSync ch) s)
            (chs.foldl (fun s ch => takeDue (syncTimeoutDue ch) (failSync ch) s) (takeDue (syncTimeoutDue ch) (failSync ch) s)) := by
          generalize takeDue (syncTimeoutDue ch) (failSync ch) s = u
          clear ih later turn
          induction chs generalizing u with
          | nil => exact .refl u
          | cons c chs ih => exact (takeDue_searching (failSync_searching c u)).trans (ih _)
        rw [← Bool.not_eq_true]
        exact fun due => absurd (rest ch due) (by rw [takeSync_ends]; exact Bool.false_ne_true)
  exact fun ch => turns channels s ch (mem_channels ch)

theorem takeEach_notDue {due : Channel → State → Bool} {effect : Channel → State → State} {s : State}
    (early : ∀ ch, due ch s = false) : takeEach due effect s = s := by
  unfold takeEach
  generalize channels = chs
  induction chs with
  | nil => rfl
  | cons ch chs ih =>
    rw [List.foldl_cons, takeDue_notDue (by rw [early]; exact Bool.false_ne_true)]
    exact ih

theorem takeSyncTimeouts_none {s : State} (none : s.NoneTimedOut) : takeSyncTimeouts s = s := takeEach_notDue none

end Sys2Proof.Machine
end

section
/-! R17, R30, R31, R38, R59, R126: the ends of the SYNCING and SETTLING substeps (O44), and what an entry to OFF leaves as it was. -/

namespace Sys2Proof.Machine

/-! ## What the controller leaves as it was -/

/-- What neither an entry to OFF nor a drain test writes. -/
def State.kept (s : State) : Fixed := { s.fixed with acq := .off, synth := .stopped, pl := State.reset.pl }

/-- Work of the controller on the detectors, the lanes and the clock: records are added at the tails, the rings and what the lanes have
recorded stay. -/
structure Winds (s t : State) : Prop where
  kept : t.kept = s.kept
  grows : Grows s t
  handsOn : HandsOn s t

theorem Winds.trans {s t u : State} (h : Winds s t) (k : Winds t u) : Winds s u :=
  ⟨k.kept.trans h.kept, h.grows.trans k.grows, h.handsOn.trans k.handsOn⟩

theorem Grows.refl (s : State) : Grows s s := .of_same rfl rfl (.of_same rfl)

theorem Winds.refl (s : State) : Winds s s := ⟨rfl, .refl s, .refl s⟩

theorem Routine.winds {s t : State} (h : Routine s t) (handsOn : HandsOn s t) : Winds s t :=
  ⟨congrArg (fun f : Fixed => { f with acq := .off, synth := .stopped, pl := State.reset.pl }) h.fixed, h.grows, handsOn⟩

theorem setFactor_winds (f : Factor) (index : Nat) (reached : Option Nat) (s : State) : Winds s (setFactor f index reached s) :=
  (setFactor_routine f index reached s).winds (setFactor_handsOn f index reached s)

theorem leaveForOff_winds (s : State) : Winds s (leaveForOff s) := by
  unfold leaveForOff
  split <;> exact ⟨rfl, .of_same rfl rfl (.of_same rfl), .of_same rfl rfl⟩

theorem stopped_winds (s : State) : Winds s (stopTimer (stopClock s)) := by
  refine ⟨rfl, .of_same rfl rfl (.of_same rfl), rfl, List.prefix_rfl, fun ch => ?_⟩
  show s.lanes[ch].GoesOn (tabulate fun ch => s.lanes[ch].toOff)[ch]
  rw [tabulate_get]
  exact s.lanes[ch].toOff_goesOn

theorem dissolves_winds (reason : OffReason) (s : State) : Winds s (reason.dissolves s) := by
  cases reason with
  | off => exact .refl s
  | abort | clock => exact (dissolveAll_routine s).winds (dissolveAll_handsOn s)

theorem enterOff_winds (reason : OffReason) (s : State) : Winds s (enterOff reason s) := by
  have closed := (Routine.foldl (fun u ch => detectorOff_routine reason ch u) channels (leaveForOff s)).winds
    (HandsOn.foldl (fun u ch => detectorOff_handsOn reason ch u) channels _)
  exact (((leaveForOff_winds s).trans closed).trans (dissolves_winds reason _)).trans (stopped_winds _)

theorem enterOff_lane (reason : OffReason) (s : State) (ch : Channel) : (enterOff reason s).lanes[ch].state = .off := by
  unfold enterOff
  simp only
  generalize reason.dissolves _ = u
  exact congrArg Lane.state (tabulate_get (fun ch => u.lanes[ch].toOff) ch)

theorem enterStandby_winds (s : State) : Winds s (enterStandby s) := by
  rw [enterStandby_eq]
  refine Winds.trans ?_ (setFactor_winds _ _ _ _)
  refine ⟨?_, .of_same rfl rfl (.of_same rfl), .of_same rfl rfl⟩
  have slot : s.timerAtStart.slot = s.timer.slot := by
    unfold State.timerAtStart
    split <;> rfl
  show ({ s.kept with slot := s.timerAtStart.slot } : Fixed) = s.kept
  rw [slot]
  rfl

theorem checkDrain_winds (s : State) : Winds s (checkDrain s) := by
  unfold checkDrain
  split
  · split
    · unfold reachDrainTarget
      split
      · exact enterStandby_winds s
      · exact (enterOff_winds .off s).trans (setFactor_winds _ _ _ _)
    · exact .refl s
  all_goals exact .refl s

/-! ## The searches that time out -/

/-- R11, R17: what the sync searches of a list have left of a part at rest. -/
structure TimedOut (chs : List Channel) (s t : State) : Prop where
  eq : t = { s with
    lanes := t.lanes
    cond := { s.cond with factors := t.cond.factors }
    rq := { s.rq with notices := t.rq.notices } }
  lanes : ∀ ch : Channel, t.lanes[ch] = if ch ∈ chs ∧ s.lanes[ch].syncDue = true then s.lanes[ch].toFaulted .noSync else s.lanes[ch]
  raised : ∀ ch ∈ chs, s.lanes[ch].syncDue = true → t.cond.factors.get (.laneFault (ch.castLE (by decide))) = true
  latched : Latches s t

theorem takeSync_timedOut (ch : Channel) {s : State} (rest : s.AtRest) :
    TimedOut [ch] s (takeDue (syncTimeoutDue ch) (failSync ch) s) := by
  cases due : s.lanes[ch].syncDue with
  | true =>
    have lanes : (failSync ch s).lanes = upd s.lanes ch (Lane.toFaulted .noSync) := (setFactor_booked _ _ _ _).lanes
    rw [takeDue_atRest due rest (failSync_routine ch s).unsent]
    refine ⟨?_, fun j => ?_, fun j here _ => ?_, (failSync_routine ch s).grows.latched⟩
    · rw [lanes]
      exact setFactor_same _ _ _ (s.modLane ch (Lane.toFaulted .noSync))
    · rw [lanes, upd_get]
      by_cases same : ch = j
      · subst same
        rw [if_pos rfl, if_pos ⟨List.mem_singleton.mpr rfl, due⟩]
      · rw [if_neg same, if_neg fun here => same (List.mem_singleton.mp here.1).symm]
    · rw [List.mem_singleton.mp here]
      refine (setFactor_get _ _ _ _ (s.modLane ch (Lane.toFaulted .noSync))).trans ?_
      rw [beq_self_eq_true, Bool.or_true]
  | false =>
    rw [takeDue_notDue (by rw [syncTimeoutDue, due]; exact Bool.false_ne_true)]
    refine ⟨rfl, fun j => (if_neg ?_).symm, fun j here timed => ?_, fun _ => id⟩
    · rintro ⟨here, timed⟩
      rw [List.mem_singleton.mp here, due] at timed
      cases timed
    · rw [List.mem_singleton.mp here, due] at timed
      cases timed

theorem TimedOut.atRest {chs : List Channel} {s t : State} (h : TimedOut chs s t) (rest : s.AtRest) : t.AtRest := by
  rw [h.eq]
  exact ⟨rest.inbound, rest.cannotStart⟩

theorem TimedOut.cons {ch : Channel} {chs : List Channel} {s t u : State} (h : TimedOut [ch] s t) (k : TimedOut chs t u)
    (new : ch ∉ chs) : TimedOut (ch :: chs) s u := by
  have same (j : Channel) (mem : j ∈ chs) : t.lanes[j] = s.lanes[j] := by
    rw [h.lanes, if_neg]
    exact fun here => new (List.mem_singleton.mp here.1 ▸ mem)
  refine ⟨?_, fun j => ?_, fun j mem due => ?_, h.latched.trans k.latched⟩
  · rw [k.eq, h.eq]
  · by_cases mem : j ∈ chs
    · simp only [k.lanes, mem, List.mem_cons, or_true, same j mem]
    · simp only [k.lanes, h.lanes, mem, List.mem_cons, List.not_mem_nil, or_false, false_and, if_false]
  · rcases List.mem_cons.mp mem with here | later
    · exact k.latched _ (h.raised j (List.mem_singleton.mpr here) due)
    · exact k.raised j later (by rw [same j later]; exact due)

theorem takeSyncTimeouts_timedOut {s : State} (rest : s.AtRest) : TimedOut channels s (takeSyncTimeouts s) := by
  have turns (chs : List Channel) (distinct : chs.Nodup) (s : State) (rest : s.AtRest) :
      TimedOut chs s (chs.foldl (fun s ch => takeDue (syncTimeoutDue ch) (failSync ch) s) s) := by
    induction chs generalizing s with
    | nil => exact ⟨rfl, fun _ => (if_neg fun none => List.not_mem_nil none.1).symm, fun _ none => absurd none List.not_mem_nil, fun _ => id⟩
    | cons ch chs ih =>
      obtain ⟨new, distinct⟩ := List.nodup_cons.mp distinct
      have first := takeSync_timedOut ch rest
      exact first.cons (ih distinct _ (first.atRest rest)) new
  exact turns channels channels_nodup s rest

/-! ## The end of SYNCING -/

theorem syncingDue_iff {s : State} : s.syncingDue = true ↔ ∃ t n, s.acq = .starting t (.syncing n) ∧ 4000 ≤ n := by
  unfold State.syncingDue
  split
  · next t n acq =>
    rw [decide_eq_true_eq]
    refine ⟨fun passed => ⟨t, n, acq, passed⟩, ?_⟩
    rintro ⟨t', n', acq', passed⟩
    cases acq.symm.trans acq'
    exact passed
  all_goals
    next acq =>
    refine ⟨nofun, ?_⟩
    rintro ⟨t, n, acq', -⟩
    cases acq.symm.trans acq'

theorem settlingDue_iff {s : State} : s.settlingDue = true ↔ ∃ t n length, s.acq = .starting t (.settling n length) ∧ length ≤ n := by
  unfold State.settlingDue
  split
  · next t n length acq =>
    rw [decide_eq_true_eq]
    refine ⟨fun passed => ⟨t, n, length, acq, passed⟩, ?_⟩
    rintro ⟨t', n', length', acq', passed⟩
    cases acq.symm.trans acq'
    exact passed
  all_goals
    next acq =>
    refine ⟨nofun, ?_⟩
    rintro ⟨t, n, length, acq', -⟩
    cases acq.symm.trans acq'

theorem anyDataSynced_iff {s : State} : anyDataSynced s = true ↔ ∃ ch : Channel,
    s.tables.channel[ch].enabled = true ∧ s.tables.channel[ch].role = .data ∧ s.lanes[ch].declared = true := by
  simp only [anyDataSynced, List.any_eq_true, mem_channels, true_and, ChannelEntry.enabledData, Bool.and_eq_true, beq_iff_eq, and_assoc]

theorem TimedOut.anyDataSynced {chs : List Channel} {s t : State} (h : TimedOut chs s t) : anyDataSynced t = anyDataSynced s := by
  have declared (ch : Channel) : t.lanes[ch].declared = s.lanes[ch].declared := by
    rw [h.lanes]
    split <;> rfl
  have tables : t.tables = s.tables := by rw [h.eq]
  unfold Machine.anyDataSynced
  simp only [tables, declared]

theorem endSyncingSubstep_eq {s : State} {t : StartTarget} {sub : Substep} (acq : s.acq = .starting t sub) :
    endSyncingSubstep s = endSyncing t s := by
  unfold endSyncingSubstep
  rw [acq]

theorem endSyncing_unsent (t : StartTarget) (s : State) : Unsent s (endSyncing t s) := by
  unfold endSyncing
  split
  · exact .of_same rfl rfl
  · exact failStart_unsent .noLane s

/-- R30, R31: the end of SYNCING: first the searches that time out, then the judgement of the lanes. -/
theorem exec_syncingSubstepEnd {s : State} {t : StartTarget} {n : Nat} (rest : s.AtRest) (acq : s.acq = .starting t (.syncing n))
    (passed : 4000 ≤ n) : exec .syncingSubstepEnd s = .next (endSyncing t (takeSyncTimeouts s)) := by
  have timed := takeSyncTimeouts_timedOut rest
  have acqThen : (takeSyncTimeouts s).acq = .starting t (.syncing n) := by rw [timed.eq]; exact acq
  have due : (takeSyncTimeouts s).syncingDue = true := syncingDue_iff.mpr ⟨t, n, acqThen, passed⟩
  have effect := endSyncingSubstep_eq acqThen
  refine congrArg Host.Outcome.next ((if_pos (syncingDue_iff.mpr ⟨t, n, acq, passed⟩)).trans ?_)
  exact (takeDue_atRest due (timed.atRest rest) (effect ▸ endSyncing_unsent t _)).trans effect

/-- R30: what a failed start has left, whatever hits were open. -/
theorem failStart_spec (cause : StartFailure) (s : State) :
    (failStart cause s).acq = .off ∧ (failStart cause s).synth = .stopped ∧ (failStart cause s).lastFail = some cause ∧
      (failStart cause s).cond.factors.get .startFailed = true ∧ (∀ ch : Channel, (failStart cause s).lanes[ch].state = .off) ∧
      (failStart cause s).tt = s.tt ∧ (failStart cause s).tables = s.tables ∧ (failStart cause s).link = s.link ∧
      Latches s (failStart cause s) ∧ HandsOn s (failStart cause s) := by
  have off (ch : Channel) := enterOff_lane .off s ch
  obtain ⟨acq, synth⟩ := enterOff_clock .off s
  have winds := enterOff_winds .off s
  unfold failStart
  generalize enterOff .off s = u at off acq synth winds ⊢
  have set := setFactor_routine .startFailed cause.number none { u with lastFail := some cause }
  have lanes := (setFactor_booked .startFailed cause.number none { u with lastFail := some cause }).lanes
  refine ⟨set.acq.trans acq, set.synth.trans synth, congrArg Fixed.lastFail set.fixed, ?_, fun ch => ?_,
    set.tt.trans (congrArg Fixed.tt winds.kept), (congrArg Fixed.tables set.fixed).trans (congrArg Fixed.tables winds.kept),
    (congrArg Fixed.link set.fixed).trans (congrArg Fixed.link winds.kept), winds.grows.latched.trans set.grows.latched, ?_⟩
  · rw [setFactor_get, beq_self_eq_true, Bool.or_true]
  · rw [lanes]
    exact off ch
  · have failed : HandsOn s { u with lastFail := some cause } := ⟨winds.handsOn.rings, winds.handsOn.sendList, winds.handsOn.lanes⟩
    exact failed.trans (setFactor_handsOn _ _ _ _)

/-- Settles O44: the judgement of the lanes after the searches that time out; the entry to STANDBY or to LEARNING. -/
theorem startingSubstepsEnd : Obligations.StartingSubstepsEnd := by
  intro s synced timedOut
  refine ⟨fun early => ?_, fun early => ?_, fun rest => ⟨fun t n acq passed => ?_, fun n length passed => ⟨fun acq => ?_, fun acq => ?_⟩⟩⟩
  · refine congrArg Host.Outcome.next (if_neg fun ended => ?_)
    obtain ⟨t, n, acq, passed⟩ := syncingDue_iff.mp ended
    exact absurd (early t n acq) (Nat.not_lt.mpr passed)
  · refine congrArg Host.Outcome.next (takeDue_notDue fun ended => ?_)
    obtain ⟨t, n, length, acq, passed⟩ := settlingDue_iff.mp ended
    exact absurd (early t n length acq) (Nat.not_lt.mpr passed)
  · have timed := takeSyncTimeouts_timedOut rest
    have dueIff (ch : Channel) : s.lanes[ch].syncDue = true ↔ timedOut ch := syncTimeoutDue_iff
    have none (nobody : ∀ ch, ¬ timedOut ch) : takeSyncTimeouts s = s :=
      takeSyncTimeouts_none fun ch => by rw [← Bool.not_eq_true, dueIff]; exact nobody ch
    have syncedIff : anyDataSynced (takeSyncTimeouts s) = true ↔ synced := by rw [timed.anyDataSynced, anyDataSynced_iff]
    have tables : (takeSyncTimeouts s).tables = s.tables := by rw [timed.eq]
    rw [exec_syncingSubstepEnd rest acq passed]
    refine ⟨fun heard nobody => ?_, fun deaf nobody closed => ?_, endSyncing t (takeSyncTimeouts s), rfl, ?_⟩
    · unfold endSyncing
      rw [if_pos (syncedIff.mpr heard), none nobody]
    · unfold endSyncing
      rw [if_neg (mt syncedIff.mp deaf), none nobody, failStart_eq _ closed (by rw [acq]; nofun)]
      rfl
    · have faulted (ch : Channel) (out : timedOut ch) : (takeSyncTimeouts s).lanes[ch] = s.lanes[ch].toFaulted .noSync :=
        (timed.lanes ch).trans (if_pos ⟨mem_channels ch, (dueIff ch).mpr out⟩)
      have goesOn (ch : Channel) (on : ¬ timedOut ch) : (takeSyncTimeouts s).lanes[ch] = s.lanes[ch] :=
        (timed.lanes ch).trans (if_neg fun due => on ((dueIff ch).mp due.2))
      have raised (ch : Channel) (out : timedOut ch) := timed.raised ch (mem_channels ch) ((dueIff ch).mpr out)
      have tt : (takeSyncTimeouts s).tt = s.tt := by rw [timed.eq]
      have link : (takeSyncTimeouts s).link = s.link := by rw [timed.eq]
      have synth : (takeSyncTimeouts s).synth = s.synth := by rw [timed.eq]
      generalize takeSyncTimeouts s = v at faulted goesOn raised tt link tables synth syncedIff ⊢
      unfold endSyncing
      split
      · next heard =>
        refine ⟨tt, tables, link, fun ch out => ⟨?_, ?_, raised ch out⟩, fun ch on => ⟨?_, ?_⟩, fun _ => ⟨?_, synth, fun ch out => ?_⟩,
          fun deaf => absurd (syncedIff.mp heard) deaf⟩
        · exact congrArg Lane.lastFault (faulted ch out)
        · exact congrArg Lane.faultEntries (faulted ch out)
        · exact congrArg Lane.lastFault (goesOn ch on)
        · exact congrArg Lane.faultEntries (goesOn ch on)
        · rw [tables]
        · exact congrArg Lane.state (faulted ch out)
      · next deaf =>
        obtain ⟨off, stopped, lastFail, failed, lanesOff, ttThen, tablesThen, linkThen, latched, handed⟩ := failStart_spec .noLane v
        have record (ch : Channel) := (handed.lanes ch).record
        refine ⟨ttThen.trans tt, tablesThen.trans tables, linkThen.trans link, fun ch out => ⟨?_, ?_, latched _ (raised ch out)⟩,
          fun ch on => ⟨?_, ?_⟩, fun heard => absurd (syncedIff.mpr heard) deaf, fun _ => ⟨off, stopped, lastFail, failed, lanesOff⟩⟩
        · exact (congrArg LaneRecord.lastFault (record ch)).trans (congrArg Lane.lastFault (faulted ch out))
        · exact (congrArg LaneRecord.faultEntries (record ch)).trans (congrArg Lane.faultEntries (faulted ch out))
        · exact (congrArg LaneRecord.lastFault (record ch)).trans (congrArg Lane.lastFault (goesOn ch on))
        · exact (congrArg LaneRecord.faultEntries (record ch)).trans (congrArg Lane.faultEntries (goesOn ch on))
  · have effect : endSettlingSubstep s = setFactor .stateReached 0 (some 2) { s with acq := .standby, timer := s.timerAtStart } := by
      unfold endSettlingSubstep
      rw [acq]
      exact enterStandby_eq s
    refine congrArg Host.Outcome.next ((takeDue_atRest (settlingDue_iff.mpr ⟨_, n, length, acq, passed⟩) rest ?_).trans effect)
    rw [effect, ← enterStandby_eq]
    exact enterStandby_unsent s
  · have effect : endSettlingSubstep s = enterLearning (startTimer s) := by
      unfold endSettlingSubstep
      rw [acq]
      rfl
    rw [startTimer_eq] at effect
    refine congrArg Host.Outcome.next ((takeDue_atRest (settlingDue_iff.mpr ⟨_, n, length, acq, passed⟩) rest ?_).trans effect)
    rw [effect]
    exact .of_same rfl rfl

end Sys2Proof.Machine
end

section
/-! R3, R6, R37, R38, R42, R87, R127: the sample row (O41, O42). -/

namespace Sys2Proof.Machine

/-! ## Rows with nothing due -/

theorem tickExpiries_none {s : State} (nothing : s.NothingDue) : tickExpiries s = s := by
  have none {due : State → Bool} (effect : State → State) (early : due s = false) : takeDue due effect s = s :=
    takeDue_notDue (by rw [early]; exact Bool.false_ne_true)
  unfold tickExpiries
  simp only
  rw [takeSyncTimeouts_none nothing.sync, takeEach_notDue nothing.settle, takeEach_notDue nothing.rearm, none expireInterval nothing.interval,
    none endSlot nothing.slot, none endSyncingSubstep nothing.syncing, none endSettlingSubstep nothing.settling,
    none endLearning nothing.learning, none expireDueWindows nothing.window]

/-- R42, R87: the channels of a row and the release of its openings. -/
def rowJudged (words : Vector LaneWord 16) (s : State) : State :=
  releaseOpenings (takeRow words channels (s, [])).2 (takeRow words channels (s, [])).1

theorem rowTaken_eq (words : Vector LaneWord 16) (s : State) : rowTaken words s = endOfTick (rowJudged words s) := rfl

theorem rowJudged_routine (words : Vector LaneWord 16) (s : State) : Routine s (rowJudged words s) :=
  (takeRow_routine words channels (s, [])).trans (releaseOpenings_routine _ _)

theorem rowTaken_unsent (words : Vector LaneWord 16) (s : State) : Unsent s (rowTaken words s) := by
  have judged := (rowJudged_routine words s).unsent
  rw [rowTaken_eq]
  generalize rowJudged words s = u at judged ⊢
  exact ⟨judged.inbound, judged.canStart⟩

theorem tickRow_eq (words : Vector LaneWord 16) (s : State) :
    tickRow words s = { checkDrain (rowTaken words s) with rowTT := s.tt, tt := s.tt + 1 } := by
  have tt := ((rowTaken_upkeep words s).trans (checkDrain_upkeep _)).tt
  unfold tickRow advanceTime
  rw [tt]

/-- R6, R42: a row of a part at rest in which nothing is due. -/
theorem exec_sampleRow {s : State} (words : Vector LaneWord 16) (rest : s.AtRest) (locked : s.synth = .locked) (nothing : s.NothingDue) :
    exec (.sampleRow words) s = .next { checkDrain (rowTaken words s) with rowTT := s.tt, tt := s.tt + 1 } := by
  have kept : Unsent s (tickRow words s) := by
    have drained := (rowTaken_unsent words s).trans (checkDrain_unsent _)
    unfold tickRow
    generalize checkDrain (rowTaken words s) = u at drained ⊢
    exact ⟨drained.inbound, drained.canStart⟩
  show Host.Outcome.next (takeTick words s) = _
  unfold takeTick
  rw [if_pos (ticking_iff.mpr locked), tickExpiries_none nothing]
  simp only [ticking_iff.mpr locked, if_true]
  rw [finish_unsent kept rest, tickRow_eq]

theorem checkDrain_elsewhere {s : State} (elsewhere : ∀ d, s.acq ≠ .draining d) : checkDrain s = s := by
  unfold checkDrain
  split
  · next d acq => exact absurd acq (elsewhere d)
  all_goals rfl

theorem Acq.countTick_draining {a : Acq} {d : DrainTarget} : a.countTick = .draining d ↔ a = .draining d := by
  cases a with
  | starting t sub => cases sub <;> simp [Acq.countTick]
  | off | standby | learning n p | armed | draining t => simp [Acq.countTick]

/-! ## Rows of lanes that are OFF -/

/-- R6, R42, R59: what a channel whose lane is OFF makes of a row. -/
def silentTurn (ch : Channel) (s : State) : State :=
  (learnTick ch none (s.modLane ch Lane.countTick)).modDet ch Detector.lowerRearm

theorem Lane.tick_off {l : Lane} (off : l.state = .off) (settleMs : Nat) (w : LaneWord) :
    l.tick settleMs w = LaneTick.silent l.countTick := by
  unfold Lane.tick Lane.beginTick Lane.stateTick
  simp only [off]
  rfl

theorem takeChannel_off {words : Vector LaneWord 16} {ch : Channel} {s : State} (off : s.lanes[ch].state = .off) :
    takeChannel words ch s = { state := silentTurn ch s, opened := false, closed := false } := by
  unfold takeChannel
  simp only [Lane.tick_off off]
  unfold takeDelivered LaneTick.silent silentTurn
  simp only [Option.isSome_none, Bool.and_false, Bool.false_and, Bool.false_eq_true, if_false]
  have lane : (s.modLane ch fun _ => s.lanes[ch].countTick) = s.modLane ch Lane.countTick :=
    congrArg (fun lanes => { s with lanes := lanes }) (upd_congr s.lanes ch rfl)
  rw [lane]

theorem silentTurn_lanes (ch : Channel) (s : State) : (silentTurn ch s).lanes = upd s.lanes ch Lane.countTick := by
  unfold silentTurn learnTick
  split <;> rfl

theorem takeRow_off (words : Vector LaneWord 16) (chs : List Channel) (s : State) (off : ∀ ch : Channel, s.lanes[ch].state = .off) :
    takeRow words chs (s, []) = (chs.foldl (fun s ch => silentTurn ch s) s, []) := by
  induction chs generalizing s with
  | nil => rfl
  | cons ch chs ih =>
    unfold takeRow
    simp only [takeChannel_off (off ch), Bool.false_and, Bool.false_eq_true, if_false]
    refine ih _ fun j => ?_
    rw [silentTurn_lanes, upd_get]
    split <;> exact off j

/-- R59: what a tick without a sample leaves of the coverage of a learning period. -/
def Acq.covers (a : Acq) (d : Detector) : Bool :=
  match a with
  | .learning _ _ => false
  | .off | .starting _ _ | .standby | .armed | .draining _ => d.learnCover

theorem silentTurn_own (s : State) : OwnChannel silentTurn
    (fun _ d _ => { d with rearm := d.rearm - 1, learnCover := s.acq.covers d }) (fun _ _ l => l.countTick) s := by
  refine ⟨fun ch dets lanes => ?_⟩
  unfold silentTurn learnTick Acq.covers
  simp only [State.modLane, State.withChannels]
  cases s.acq <;> simp only [State.modDet, upd_upd] <;> rfl

theorem silentRow_eq (s : State) : channels.foldl (fun s ch => silentTurn ch s) s = s.withChannels
    (tabulate fun ch => { s.dets[ch] with rearm := s.dets[ch].rearm - 1, learnCover := s.acq.covers s.dets[ch] })
    (tabulate fun ch => s.lanes[ch].countTick) := channels_foldl (silentTurn_own s)

theorem exec_silentRow {s : State} (words : Vector LaneWord 16) (rest : s.AtRest) (locked : s.synth = .locked) (nothing : s.NothingDue)
    (off : ∀ ch : Channel, s.lanes[ch].state = .off) (goesOn : ∀ t, s.acq ≠ .draining t) :
    exec (.sampleRow words) s = .next
      { s with
        tt := s.tt + 1
        rowTT := s.tt
        acq := s.acq.countTick
        lanes := tabulate fun ch => s.lanes[ch].countTick
        dets := tabulate fun ch => { s.dets[ch] with rearm := s.dets[ch].rearm - 1, learnCover := s.acq.covers s.dets[ch] }
        guard := lowerGuards s.guard
        pl := { s.pl with slotTicks := s.pl.slotTicks + 1 }
        timer := s.timer.countTick } := by
  have judged : rowJudged words s = channels.foldl (fun s ch => silentTurn ch s) s := by
    unfold rowJudged
    rw [takeRow_off words channels s off]
    rfl
  have taken : rowTaken words s = endOfTick (channels.foldl (fun s ch => silentTurn ch s) s) := by rw [rowTaken_eq, judged]
  have acq : (rowTaken words s).acq = s.acq.countTick := by
    rw [taken, silentRow_eq]
    rfl
  rw [exec_sampleRow words rest locked nothing, checkDrain_elsewhere (by rw [acq]; exact fun d => mt Acq.countTick_draining.mp (goesOn d)),
    taken, silentRow_eq]
  rfl

/-- Settles O41: sixteen silent turns and the counts of the tick. -/
theorem rowWithoutSamples : Obligations.RowWithoutSamples := by
  intro s words
  refine ⟨fun idle => ?_, fun rest locked nothing off goesOn => ?_⟩
  · exact congrArg Host.Outcome.next (if_neg (mt ticking_iff.mp idle))
  · intro row result
    have taken := exec_silentRow words rest locked nothing off goesOn
    refine ⟨?_, fun t n acq => ?_, fun t n length acq => ?_, fun n period acq => ?_⟩
    · intro still
      refine taken.trans ?_
      rcases still with acq | acq | acq | ⟨t, acq⟩ <;> rw [acq] <;> rfl
    all_goals
      refine taken.trans ?_
      rw [acq]
      rfl

/-! ## The tick numbers of the lanes -/

theorem Lane.judgeWord_tickNumber (w : LaneWord) (l : Lane) : (l.judgeWord w).1.tickNumber = l.tickNumber := by
  unfold Lane.judgeWord Lane.framingError
  cases w with
  | malformed => simp only; split <;> rfl
  | wellFormed s | missing => rfl

theorem Lane.beginTick_tickNumber (l : Lane) : l.beginTick.tickNumber = l.tickNumber := by
  unfold Lane.beginTick
  split
  · split <;> rfl
  all_goals rfl

theorem Lane.stateTick_tickNumber (settleMs : Nat) (w : LaneWord) (l : Lane) : (l.stateTick settleMs w).lane.tickNumber = l.tickNumber := by
  have judged := l.judgeWord_tickNumber w
  unfold Lane.stateTick
  split
  · rfl
  · unfold Lane.syncTick
    cases w with
    | wellFormed s => simp only; split <;> rfl
    | malformed | missing => rfl
  · unfold Lane.settleTick
    simp only
    split
    · exact judged
    · split <;> exact judged
  · unfold Lane.liveTick
    simp only
    split
    · exact judged
    · split <;> exact judged
  · unfold Lane.stuckTick
    simp only
    split <;> exact judged
  all_goals rfl

theorem Lane.tick_tickNumber (settleMs : Nat) (w : LaneWord) (l : Lane) : (l.tick settleMs w).lane.tickNumber = l.tickNumber + 1 := by
  unfold Lane.tick Lane.countTick
  simp only [Lane.stateTick_tickNumber, Lane.beginTick_tickNumber]

theorem takeDelivered_record (ch : Channel) (wasLive : Bool) (r : LaneTick) (s : State) (j : Channel) :
    (takeDelivered ch wasLive r s).state.lanes[j].record = s.lanes[j].record := by
  unfold takeDelivered
  split
  · exact ((takeSample_handsOn ch _ s).lanes j).record
  · simp only
    split
    · exact ((laneFaulted_handsOn ch wasLive s).lanes j).record
    · rfl

theorem takeChannel_tickNumber (words : Vector LaneWord 16) (ch : Channel) (s : State) (j : Channel) :
    (takeChannel words ch s).state.lanes[j].tickNumber =
      if j = ch then s.lanes[j].tickNumber + 1 else s.lanes[j].tickNumber := by
  have ticked := Lane.tick_tickNumber s.tables.setup.settleMs words[ch] s.lanes[ch]
  unfold takeChannel
  simp only
  generalize s.lanes[ch].beginTick.isLive = wasLive
  generalize s.lanes[ch].tick s.tables.setup.settleMs words[ch] = r at ticked ⊢
  have entered : (if r.entered then ringClear ch (s.modLane ch fun _ => r.lane) else s.modLane ch fun _ => r.lane).lanes
      = upd s.lanes ch fun _ => r.lane := by
    split <;> rfl
  generalize (if r.entered then ringClear ch (s.modLane ch fun _ => r.lane) else s.modLane ch fun _ => r.lane) = u at entered ⊢
  have record : ∀ b : Bool, (if b then learnTick ch r.delivered (takeDelivered ch wasLive r u).state
      else (learnTick ch r.delivered (takeDelivered ch wasLive r u).state).modDet ch Detector.lowerRearm).lanes[j].record = u.lanes[j].record := by
    intro b
    have learned := (((learnTick_handsOn ch r.delivered (takeDelivered ch wasLive r u).state).lanes j).record).trans
      (takeDelivered_record ch wasLive r u j)
    cases b <;> exact learned
  refine (congrArg LaneRecord.tickNumber (record _)).trans ?_
  show u.lanes[j].tickNumber = _
  rw [entered, upd_get]
  by_cases same : ch = j
  · subst same
    rw [if_pos rfl, if_pos rfl, ticked]
  · rw [if_neg same, if_neg (Ne.symm same)]

theorem takeRow_tickNumber (words : Vector LaneWord 16) {chs : List Channel} (distinct : chs.Nodup) (acc : State × List Channel)
    (j : Channel) : (takeRow words chs acc).1.lanes[j].tickNumber =
      if j ∈ chs then acc.1.lanes[j].tickNumber + 1 else acc.1.lanes[j].tickNumber := by
  induction chs generalizing acc with
  | nil => rw [if_neg List.not_mem_nil]; rfl
  | cons ch chs ih =>
    obtain ⟨new, distinct⟩ := List.nodup_cons.mp distinct
    unfold takeRow
    rw [ih distinct]
    simp only [takeChannel_tickNumber, List.mem_cons]
    by_cases here : j = ch
    · subst here
      simp only [new, if_false, if_true, true_or]
    · simp only [here, if_false, false_or]

theorem Lane.GoesOn.tickNumber {l l' : Lane} (h : l.GoesOn l') : l'.tickNumber = l.tickNumber := congrArg LaneRecord.tickNumber h.record

theorem rowJudged_tickNumber (words : Vector LaneWord 16) (s : State) (j : Channel) :
    (rowJudged words s).lanes[j].tickNumber = s.lanes[j].tickNumber + 1 := by
  have taken := takeRow_tickNumber words channels_nodup (s, []) j
  rw [if_pos (mem_channels j)] at taken
  unfold rowJudged
  generalize takeRow words channels (s, []) = r at taken ⊢
  exact ((releaseOpenings_handsOn r.2 r.1).lanes j).tickNumber.trans taken

/-- Section 1.3: every receiver's tick number advances by one in a row. -/
theorem row_tickNumber (words : Vector LaneWord 16) (s : State) (j : Channel) :
    (checkDrain (rowTaken words s)).lanes[j].tickNumber = s.lanes[j].tickNumber + 1 := by
  have judged := rowJudged_tickNumber words s j
  rw [rowTaken_eq]
  generalize rowJudged words s = u at judged ⊢
  exact ((checkDrain_winds (endOfTick u)).handsOn.lanes j).tickNumber.trans judged

/-! ## The row in full -/

theorem openedAsData_eq (ch : Channel) (s : State) : openedAsData ch s = (s.dets[ch].open?.any fun h => h.role == .data) := by
  unfold openedAsData Detector.open?
  cases s.dets[ch].machine <;> rfl

theorem takeRow_foldl (words : Vector LaneWord 16) (chs : List Channel) (acc : State × List Channel) :
    takeRow words chs acc = chs.foldl (fun row ch =>
      ((takeChannel words ch row.1).state,
        if (takeChannel words ch row.1).opened && ((takeChannel words ch row.1).state.dets[ch].open?.any fun h => h.role == .data)
        then row.2 ++ [ch] else row.2)) acc := by
  induction chs generalizing acc with
  | nil => rfl
  | cons ch chs ih =>
    unfold takeRow
    simp only [openedAsData_eq]
    exact ih _

theorem Acq.countTick_eq (a : Acq) : a.countTick = match a with
    | .starting t (.syncing n) => .starting t (.syncing (n + 1))
    | .starting t (.settling n length) => .starting t (.settling (n + 1) length)
    | .learning n period => .learning (n + 1) period
    | .off | .starting _ .locking | .standby | .armed | .draining _ => a := by
  unfold Acq.countTick
  rfl

/-- R31, R32, R84, R20, R127: a row up to its drain test. -/
theorem rowTaken_counts (words : Vector LaneWord 16) (s : State) : rowTaken words s =
    { rowJudged words s with
      guard := lowerGuards (rowJudged words s).guard
      pl := { (rowJudged words s).pl with slotTicks := (rowJudged words s).pl.slotTicks + 1 }
      timer := (rowJudged words s).timer.countTick
      acq := s.acq.countTick } := by
  rw [rowTaken_eq, ← (rowJudged_routine words s).acq]
  rfl

/-- R42, R87, R37: a row and its drain test. -/
theorem row_drains (words : Vector LaneWord 16) (s : State) :
    ((∀ d, s.acq ≠ .draining d) ∨ ¬ (rowTaken words s).NothingOpen → checkDrain (rowTaken words s) = rowTaken words s) ∧
    (s.acq = .draining .standby → (rowTaken words s).NothingOpen → checkDrain (rowTaken words s) =
      setFactor .stateReached 0 (some 2) { rowTaken words s with acq := .standby, timer := (rowTaken words s).timerAtStart }) ∧
    (s.acq = .draining .off → (rowTaken words s).NothingOpen →
      checkDrain (rowTaken words s) = setFactor .stateReached 0 (some 0) (rowTaken words s).wentOff) := by
  have acq : (rowTaken words s).acq = s.acq.countTick := by rw [rowTaken_counts]
  refine ⟨?_, fun draining drained => ?_, fun draining drained => ?_⟩
  · rintro (elsewhere | waits)
    · exact checkDrain_elsewhere fun d => by rw [acq]; exact mt Acq.countTick_draining.mp (elsewhere d)
    · exact checkDrain_waits waits
  · rw [checkDrain_reaches (acq.trans (Acq.countTick_draining.mpr draining)) drained]
    exact enterStandby_eq _
  · have there := acq.trans (Acq.countTick_draining.mpr draining)
    rw [checkDrain_reaches there drained, reachDrainTarget_off drained (by rw [there]; nofun)]

theorem endOfTick_kept (s : State) : (endOfTick s).kept = s.kept := by
  have slot : s.timer.countTick.slot = s.timer.slot := by
    unfold IntervalTimer.countTick
    split <;> rfl
  show ({ s.kept with slot := s.timer.countTick.slot } : Fixed) = s.kept
  rw [slot]
  rfl

theorem rowTaken_winds (words : Vector LaneWord 16) (s : State) : (rowTaken words s).kept = s.kept ∧ Grows s (rowTaken words s) := by
  have judged := rowJudged_routine words s
  rw [rowTaken_eq, endOfTick_kept]
  generalize rowJudged words s = u at judged ⊢
  exact ⟨congrArg (fun f : Fixed => { f with acq := .off, synth := .stopped, pl := State.reset.pl }) judged.fixed,
    judged.grows.hits, judged.grows.events, judged.grows.latched⟩

/-! ## The expiries that are due, as commands -/

/-- A command after an outcome. -/
def thenTake (o : Host.Outcome State Fault Refusal) (c : Instr) : Host.Outcome State Fault Refusal :=
  match o with
  | .next t => exec c t
  | .fault f => .fault f
  | .refused r => .refused r

theorem thenTake_each {command : Channel → Instr} {due : Channel → State → Bool} {effect : Channel → State → State}
    (each : ∀ ch t, exec (command ch) t = .next (takeDue (due ch) (effect ch) t)) (chs : List Channel) (s : State) :
    (chs.map command).foldl thenTake (.next s) = .next (chs.foldl (fun s ch => takeDue (due ch) (effect ch) s) s) := by
  induction chs generalizing s with
  | nil => rfl
  | cons ch chs ih =>
    rw [List.map_cons, List.foldl_cons, List.foldl_cons]
    show (chs.map command).foldl thenTake (exec (command ch) s) = _
    rw [each, ih]

theorem expiries_searching (s : State) : Searching (takeSyncTimeouts s) (takeDue State.plSlotDue endSlot
    (takeDue State.intervalDue expireInterval (takeEach rearmDue endRearm (takeEach laneSettleDue settleLane (takeSyncTimeouts s))))) := by
  have settled := takeEach_searching (due := laneSettleDue) settleLane_searching (takeSyncTimeouts s)
  generalize takeEach laneSettleDue settleLane (takeSyncTimeouts s) = u at settled ⊢
  have rearmed := takeEach_searching (due := rearmDue) endRearm_searching u
  generalize takeEach rearmDue endRearm u = v at rearmed ⊢
  have expired : Searching v (expireInterval v) := .of_same rfl
  exact ((settled.trans rearmed).trans (takeDue_searching expired)).trans (takeDue_searching (endSlot_searching _))

theorem thenTake_all {command : Channel → Instr} (due : Channel → State → Bool) (effect : Channel → State → State)
    (each : ∀ ch t, exec (command ch) t = .next (takeDue (due ch) (effect ch) t)) (s : State) :
    (channels.map command).foldl thenTake (.next s) = .next (takeEach due effect s) := thenTake_each each channels s

/-- R31, log 9: where no search is over, the end of SYNCING is that of the controller alone. -/
theorem exec_syncingSubstepEnd_searched {s : State} (searched : s.NoneTimedOut) :
    exec .syncingSubstepEnd s = .next (takeDue State.syncingDue endSyncingSubstep s) := by
  have once : takeSyncingEnd s = takeDue State.syncingDue endSyncingSubstep s := by
    unfold takeSyncingEnd
    rw [takeSyncTimeouts_none searched]
  show Host.Outcome.next (if s.syncingDue then takeSyncingEnd s else s) = _
  rw [once]
  unfold takeDue
  split <;> rfl

/-- The expiries of the interval, the slot, the controller and the windows, as commands. -/
theorem thenTake_others {s : State}
    (searched : (takeDue State.plSlotDue endSlot (takeDue State.intervalDue expireInterval s)).NoneTimedOut) :
    [Instr.intervalExpiry, .plSlotEnd, .syncingSubstepEnd, .settlingSubstepEnd, .learningEnd, .windowExpiry].foldl thenTake (.next s)
      = .next (takeDue State.windowDue expireDueWindows (takeDue State.learningDue endLearning (takeDue State.settlingDue endSettlingSubstep
          (takeDue State.syncingDue endSyncingSubstep (takeDue State.plSlotDue endSlot (takeDue State.intervalDue expireInterval s)))))) := by
  generalize earlier : takeDue State.plSlotDue endSlot (takeDue State.intervalDue expireInterval s) = w at searched ⊢
  have first : thenTake (thenTake (.next s) .intervalExpiry) .plSlotEnd = .next w := congrArg Host.Outcome.next earlier
  simp only [List.foldl_cons, List.foldl_nil]
  rw [first, show thenTake (.next w) .syncingSubstepEnd = _ from exec_syncingSubstepEnd_searched searched]
  rfl

/-- R30, log 9: the expiries that no tick may pass are those of their commands in order: no search times out twice. -/
theorem tickExpiries_commands (s : State) :
    (channels.map Instr.laneSyncTimeout ++ channels.map Instr.laneSettleEnd ++ channels.map Instr.rearmExpiry
      ++ [Instr.intervalExpiry, .plSlotEnd, .syncingSubstepEnd, .settlingSubstepEnd, .learningEnd, .windowExpiry]).foldl thenTake (.next s)
      = .next (tickExpiries s) := by
  have searched := (expiries_searching s).noneTimedOut (takeSyncTimeouts_ends s)
  have others := thenTake_others searched
  rw [List.foldl_append, List.foldl_append, List.foldl_append, thenTake_all syncTimeoutDue failSync (fun _ _ => rfl),
    thenTake_all laneSettleDue settleLane (fun _ _ => rfl), thenTake_all rearmDue endRearm (fun _ _ => rfl)]
  exact others

theorem takeTick_expiries {s : State} (words : Vector LaneWord 16) (locked : s.synth = .locked) :
    takeTick words s =
      if (tickExpiries s).ticking then finish (tickRow words (tickExpiries s)) else tickExpiries s := if_pos (ticking_iff.mpr locked)

/-- Settles O42: a row in closed form, the expiries before it as commands, and what no row moves. -/
theorem rowStampsAndCounts : Obligations.RowStampsAndCounts := by
  refine ⟨fun s words rest locked nothing => ?_, fun s u words locked => ?_, fun s words rest locked nothing => ?_⟩
  · intro turn row judged counted result
    have taken : rowTaken words s = counted := by
      rw [rowTaken_counts, Acq.countTick_eq, show rowJudged words s = judged from ?_]
      · rfl
      · unfold rowJudged
        rw [takeRow_foldl]
        rfl
    have outcome := exec_sampleRow words rest locked nothing
    have drains := row_drains words s
    rw [taken] at outcome drains
    obtain ⟨goesOn, standby, off⟩ := drains
    refine ⟨fun h => ?_, fun acq drained => ?_, fun acq drained => ?_⟩
    · rw [goesOn h] at outcome
      exact outcome
    · rw [standby acq drained] at outcome
      exact outcome
    · rw [off acq drained] at outcome
      exact outcome
  · intro all due take commands
    have same : take = thenTake := by
      funext o c
      cases o <;> rfl
    have ended : tickExpiries s = u := by
      rw [same] at commands
      exact Host.Outcome.next.inj ((tickExpiries_commands s).symm.trans commands)
    refine ⟨fun goesOn nothing => ?_, fun stopped => ?_⟩
    · show Host.Outcome.next (takeTick words s) = .next (takeTick words u)
      rw [takeTick_expiries words locked, ended, takeTick_expiries words goesOn, tickExpiries_none nothing]
    · show Host.Outcome.next (takeTick words s) = .next u
      rw [takeTick_expiries words locked, ended, if_neg (mt ticking_iff.mp stopped)]
  · have judged := rowJudged_routine words s
    have drained := checkDrain_winds (rowTaken words s)
    have taken := rowTaken_winds words s
    have kept := drained.kept.trans taken.1
    have grown := taken.2.trans drained.grows
    have outcome := exec_sampleRow words rest locked nothing
    have ticked (ch : Channel) := row_tickNumber words s ch
    have goesOn (elsewhere : ∀ d, s.acq ≠ .draining d) : (checkDrain (rowTaken words s)).synth = .locked ∧
        (checkDrain (rowTaken words s)).pl = { s.pl with slotTicks := s.pl.slotTicks + 1 } := by
      rw [(row_drains words s).1 (.inl elsewhere), rowTaken_counts]
      generalize rowJudged words s = u at judged ⊢
      refine ⟨judged.synth.trans locked, ?_⟩
      rw [show u.pl = s.pl from congrArg Fixed.pl judged.fixed]
    clear drained taken
    generalize checkDrain (rowTaken words s) = t at outcome ticked goesOn kept grown
    exact ⟨_, outcome, rfl, rfl, ticked, goesOn,
      congrArg Fixed.now kept, congrArg Fixed.lastFail kept, congrArg Fixed.tables kept, congrArg Fixed.crcs kept,
      congrArg Fixed.loader kept, congrArg Fixed.lock kept, congrArg Fixed.link kept, congrArg Fixed.enables kept,
      congrArg Fixed.groupEnables kept, congrArg Fixed.pressure kept, congrArg Fixed.pMax kept, congrArg Fixed.phase kept,
      congrArg Fixed.responses kept, congrArg Fixed.tx kept, congrArg Fixed.ready kept, congrArg Fixed.slot kept,
      congrArg Fixed.lastReset kept, congrArg Fixed.pending kept, grown.hits, grown.events⟩

end Sys2Proof.Machine
end

section
/-! R174, section 10.5: the status pages item by item (O31). -/

namespace Sys2Proof.Machine

/-! ## Items -/

theorem flagByte_eq (b : Bool) : flagByte b = if b then [1] else [0] := by cases b <;> rfl

/-- R158: the wait of the Hit Queue's head, where it fits. -/
theorem waitBytes_eq {s : State} (fits : ∀ q rest, s.rq.hits = q :: rest → s.now - q.entryTime < 4294967295) :
    waitBytes s.headWait = match s.rq.hits with | [] => [255, 255, 255, 255] | q :: _ => beBytes 4 (s.now - q.entryTime) := by
  unfold State.headWait
  cases hits : s.rq.hits with
  | nil => rfl
  | cons q rest => exact if_pos (fits q rest hits)

theorem detectorItems_eq (d : Detector) : detectorItems d =
    [BitVec.ofNat 8 d.machine.number] ++ [BitVec.ofNat 8 d.thrDb] ++ beBytes 2 d.thrCode ++ [optByte d.noise]
      ++ if d.waiting.isSome then [1] else [0] := by
  simp only [detectorItems, beBytes_one, flagByte_eq]

theorem contextItems_eq (o : Option Context) : contextItems o =
    match o with
    | none => [0, 255] ++ List.replicate 12 0 ++ [0, 0]
    | some c =>
      [BitVec.ofNat 8 (if c.settling then 2 else 1)] ++ [BitVec.ofNat 8 c.first.val] ++ beBytes 6 c.openTime.toNat
        ++ beBytes 6 c.windowEnd.toNat ++ [BitVec.ofNat 8 c.members.length]
        ++ [BitVec.ofNat 8 (c.members.countP fun m => m.parked.isSome)] := by
  cases o with
  | none =>
    have zero : beBytes 12 0 = List.replicate 12 0 := by decide
    simp only [contextItems, zero]
  | some c =>
    simp only [contextItems, timeBytes, List.cons_append, List.nil_append, List.append_assoc]
    rfl

theorem freeBlocks_eq (w : WaveStore) :
    w.freeBlocks = 256 - (w.segments.toList.map fun o => (o.map fun g => g.blocks.length).getD 0).sum := by
  unfold WaveStore.freeBlocks WaveStore.blocksInUse
  congr 3
  funext o
  cases o <;> rfl

theorem countIn_eq (w : WaveStore) (st : SegState) : w.countIn st = w.segments.toList.countP fun o => o.any fun g => g.state == st := by
  unfold WaveStore.countIn
  congr 1
  funext o
  cases o <;> rfl

theorem freeDescriptors_eq (w : WaveStore) : w.freeDescriptors = w.segments.toList.countP Option.isNone :=
  List.countP_eq_length_filter.symm

theorem period_eq (t : IntervalTimer) :
    (t.period.map (· / 2000)).getD 4294967295 = match t.period with | some p => p / 2000 | none => 4294967295 := by
  cases t.period <;> rfl

theorem nextHit_toNat (o : Option Counter) :
    (o.getD Config.exhaustedHitId).toNat = match o with | some id => id.toNat | none => Config.exhaustedHitId.toNat := by
  cases o <;> rfl

theorem Acq.targetNumber_eq (a : Acq) : a.targetNumber =
    match a with
    | .starting .standby _ | .draining .standby => some 2
    | .starting .armed _ | .learning _ _ => some 4
    | .draining .off => some 0
    | .off | .standby | .armed => none := by
  cases a with
  | starting t sub => cases t <;> rfl
  | draining t => cases t <;> rfl
  | off | standby | learning n p | armed => rfl

/-! ## Page 0 -/

/-- Section 10.5: the items of page 0, in the order of the table. -/
def statusItems (s : State) : List (List Byte) :=
  let flag (b : Bool) : List Byte := if b then [1] else [0]
  [[BitVec.ofNat 8 s.synth.number], beBytes 6 s.tt.toNat, s.lanes.toList.flatMap laneItems,
   [BitVec.ofNat 8 s.pl.state.number], beBytes 4 s.pl.framingErrors.toNat,
   [BitVec.ofNat 8 s.acq.number], [optByte s.acq.substepNumber], [optByte s.acq.targetNumber],
   [optByte (s.lastFail.map StartFailure.number)],
   s.dets.toList.flatMap detectorItems,
   beBytes 4 (s.nextHit.getD Config.exhaustedHitId).toNat, flag s.nextHit.isNone,
   s.asm.contexts.toList.flatMap contextItems, beBytes 4 s.asm.nextEvent.toNat, beBytes 4 s.asm.eventsQueued.toNat,
   beBytes 4 s.asm.eventsLost.toNat, beBytes 4 s.asm.eventsDissolved.toNat, beBytes 4 s.asm.contextsReleased.toNat,
   beBytes 4 s.asm.hitsNoContext.toNat,
   beBytes 4 s.hist.pressure, beBytes 4 s.hist.pMax, [BitVec.ofNat 8 s.hist.phase.number], s.hist.holdCounts.toList.flatMap countBytes,
   flag s.timer.period.isSome, beBytes 4 ((s.timer.period.map (· / 2000)).getD 4294967295), beBytes 4 s.timer.tickCount,
   flag s.timer.slot.isSome, beBytes 4 s.timer.replaced.toNat,
   beBytes 4 s.wave.captured.toNat, beBytes 4 s.wave.skipped.toNat, beBytes 4 s.wave.discarded.toNat, beBytes 4 s.wave.sent.toNat,
   beBytes 4 s.wave.pieces.toNat, beBytes 4 s.wave.nextSeg.toNat, beBytes 4 s.wave.freeBlocks, beBytes 4 s.wave.freeDescriptors,
   beBytes 4 s.wave.sendList.length, beBytes 4 (s.wave.countIn .filling), beBytes 4 (s.wave.countIn .waitEvent),
   [BitVec.ofNat 8 s.rq.shed.val], beBytes 4 s.rq.hits.length, beBytes 4 s.rq.events.length, beBytes 4 s.rq.notices.length,
   beBytes 4 s.rq.responses.length, waitBytes s.headWait, flag s.rq.tx.isSome, flag s.rq.ready, beBytes 4 s.rq.framesSent.toNat,
   beBytes 4 s.link.inbound.length, beBytes 4 s.link.frameErrors.toNat, beBytes 4 s.link.dropped.toNat, beBytes 4 s.link.taken.toNat,
   loaderItems s,
   beBytes 4 s.crcs.setup.toNat, beBytes 4 s.crcs.channel.toNat, beBytes 4 s.crcs.pair.toNat, beBytes 4 s.crcs.filter.toNat,
   beBytes 4 s.crcs.zone.toNat, flag s.lock.isSome, match s.lock with | some digest => counterBytes digest | none => []]

theorem page0_eq (s : State) : page0 s = (statusItems s).flatten := by
  simp only [page0, statusItems, clockItems, plItems, acqItems, acqBytes, hitIdItems, assemblerItems, historyItems, timerItems, waveItems,
    queueItems, linkItems, lockItems, TableCrcs.bytes, countBytes, counterBytes, timeBytes, beBytes_one, flagByte_eq, byte,
    List.flatten_cons, List.flatten_nil, List.append_nil, List.append_assoc, List.cons_append, List.nil_append] <;>
  rfl

theorem page0_front (s : State) : (page0 s).take 7 = [BitVec.ofNat 8 s.synth.number] ++ beBytes 6 s.tt.toNat := by
  rw [page0_eq]
  exact List.take_left' (l₁ := [BitVec.ofNat 8 s.synth.number] ++ beBytes 6 s.tt.toNat) rfl

/-! ## The accounts -/

theorem toList_four {α : Type} (v : Vector α 4) : v.toList = [v[0], v[1], v[2], v[3]] := by
  refine List.ext_getElem (by simp) fun i h _ => ?_
  have bound : i < 4 := by simpa using h
  interval_cases i <;> simp

/-- R163: the hits of a channel parked in contexts. -/
theorem parkedCount_eq (a : Assembler) (ch : Channel) : a.parkedCount ch =
    (a.contexts.toList.map fun o => match o with
      | none => 0
      | some c => c.members.countP fun m => m.parked.any fun h => h.channel == ch).sum := by
  have one (o : Option Context) : parkedOf o ch = match o with
      | none => 0
      | some c => c.members.countP fun m => m.parked.any fun h => h.channel == ch := by
    cases o with
    | none => rfl
    | some c =>
      show (c.members.countP _) = c.members.countP _
      congr 1
      funext m
      cases m.parked <;> rfl
  unfold Assembler.parkedCount
  rw [toList_four]
  simp only [one, List.map_cons, List.map_nil, List.sum_cons, List.sum_nil]
  simp only [Nat.add_assoc, Nat.add_zero]
  rfl

/-! ## The answer -/

theorem exec_statusRead_quiet {s : State} {code : Code} {body : List Byte} (tag page : Byte) (quiet : s.Quiet)
    (answer : statusRead page (countTaken s) = { state := countTaken s, code := code, body := body }) :
    exec (.statusRead tag page) s = .next (s.answered tag 0x0B code body) :=
  exec_quiet (i := .statusRead tag page) quiet rfl (show judgeStatus [page] (countTaken s) = _ from answer) quiet.cannotStart

theorem statusRead_page {page : Byte} {s : State} {body : List Byte} (h : statusPage page s = some body) :
    statusRead page s = { state := s, code := .ok, body := body } := by
  unfold statusRead
  rw [h]

theorem statusPage_beyond {page : Byte} (beyond : 4 ≤ page.toNat) (s : State) : statusPage page s = none := by
  obtain ⟨k, hk⟩ := Nat.exists_eq_add_of_le' beyond
  unfold statusPage
  rw [hk]
  rfl

/-- Settles O31: each page is the flattening of its items. -/
theorem statusReadAnswers : Obligations.StatusReadAnswers := by
  intro s tag page quiet result one four flag opt cause lane detector context filled blocks wait items held account
  have accounts (t : State) (ch : Channel) (same : countTaken s = t) : accountItems t ch = account ch := by
    subst same
    simp only [accountItems, counterBytes, countBytes, State.hitsHeld, Detector.openCount, parkedCount_eq]
    rfl
  refine ⟨fun beyond => ?_, fun zero fits => ?_, fun zero => ⟨page0 (countTaken s), ?_, page0_front _⟩, fun one' => ?_,
    fun two => ?_, fun three => ?_⟩
  · refine exec_statusRead_quiet tag page quiet ?_
    unfold statusRead
    rw [statusPage_beyond beyond]
    rfl
  · subst zero
    refine exec_statusRead_quiet tag 0 quiet (statusRead_page (congrArg some (congrArg (List.cons 0) ?_)))
    refine (page0_eq _).trans (congrArg List.flatten ?_)
    have waits : waitBytes (countTaken s).headWait = wait := waitBytes_eq (s := countTaken s) fits
    simp only [statusItems, waits, show detectorItems = _ from funext detectorItems_eq, show contextItems = _ from funext contextItems_eq,
      show laneItems = _ from funext fun l => congrArg (· ++ _) (beBytes_one l.state.number), freeBlocks_eq, countIn_eq, freeDescriptors_eq,
      period_eq, nextHit_toNat, Acq.targetNumber_eq]
    rfl
  · subst zero
    exact exec_statusRead_quiet tag 0 quiet (statusRead_page rfl)
  · subst one'
    refine exec_statusRead_quiet tag 1 quiet (statusRead_page ?_)
    show some ((1 : Byte) :: page1 (countTaken s)) = _
    simp only [page1, beBytes_one, List.append_assoc, List.cons_append, List.nil_append]
    rfl
  · subst two
    refine exec_statusRead_quiet tag 2 quiet (statusRead_page (congrArg some (congrArg (List.cons 2) ?_)))
    unfold page2
    rw [show accountItems (countTaken s) = account from funext fun ch => accounts _ ch rfl]
    rfl
  · subst three
    refine exec_statusRead_quiet tag 3 quiet (statusRead_page (congrArg some (congrArg (List.cons 3) ?_)))
    unfold page3
    rw [show accountItems (countTaken s) = account from funext fun ch => accounts _ ch rfl]
    rfl

end Sys2Proof.Machine
end

section
/-! R144, R155 to R158, R161: the scheduler's order (O50) and the flush expiry (O51). -/

namespace Sys2Proof.Machine

/-! ## Sources in their order -/

theorem schedule_starts {s : State} (canStart : s.canStart = true) : schedule s = scheduleFrom s := if_pos canStart

theorem scheduleFrom_response {s : State} {r : Response} {rest : List Response} (responses : s.rq.responses = r :: rest) :
    scheduleFrom s = startFrame (.response r) { s with rq := { s.rq with responses := rest } } := by
  unfold scheduleFrom
  rw [responses]

theorem scheduleFrom_notices {s : State} (responses : s.rq.responses = []) (notices : s.rq.notices ≠ []) :
    scheduleFrom s = startFrame (.notices (s.rq.notices.take 4)) { s with rq := { s.rq with notices := s.rq.notices.drop 4 } } := by
  unfold scheduleFrom scheduleNotices
  rw [responses]
  exact if_neg (by simpa using notices)

/-- R157: without a response and a notice the Event Queue is next. -/
theorem scheduleFrom_records {s : State} (responses : s.rq.responses = []) (notices : s.rq.notices = []) :
    scheduleFrom s = scheduleEvents s := by
  unfold scheduleFrom scheduleNotices
  rw [responses]
  exact if_pos (by rw [notices]; rfl)

theorem scheduleEvents_event {s : State} {e : EventRecord} {rest : List EventRecord} (events : s.rq.events = e :: rest) :
    scheduleEvents s = startFrame (.event e) { s with rq := { s.rq with events := rest } } := by
  unfold scheduleEvents
  rw [events]

theorem scheduleEvents_none {s : State} (events : s.rq.events = []) : scheduleEvents s = scheduleHits s := by
  unfold scheduleEvents
  rw [events]

/-- R158: the Hit Queue's turn comes with enough records, or with the wait of its head. -/
theorem hitsEligible_iff {s : State} : s.hitsEligible = true ↔ ∃ q rest, s.rq.hits = q :: rest ∧
    (s.tables.setup.hitTrigger ≤ s.rq.hits.length ∨ s.tables.setup.flushUs ≤ s.now - q.entryTime) := by
  unfold State.hitsEligible State.flushed State.headWait
  cases hits : s.rq.hits with
  | nil => simp
  | cons q rest => simp

theorem scheduleInterval_slot {s : State} {i : IntervalRecord} (slot : s.timer.slot = some i) :
    scheduleInterval s = startFrame (.interval i) { s with timer := { s.timer with slot := none } } := by
  unfold scheduleInterval
  rw [slot]

theorem scheduleInterval_none {s : State} (slot : s.timer.slot = none) : scheduleInterval s = scheduleWaveform s := by
  unfold scheduleInterval
  rw [slot]

theorem scheduleWaveform_none {s : State} (sendList : s.wave.sendList = []) : scheduleWaveform s = s := by
  unfold scheduleWaveform
  rw [sendList]

theorem scheduleWaveform_piece {s : State} {i : Fin 64} {rest : List (Fin 64)} {g : Segment} (sendList : s.wave.sendList = i :: rest)
    (segment : s.wave.segments[i] = some g) : scheduleWaveform s = startPiece i g s := by
  unfold scheduleWaveform
  simp only [sendList, segment]

/-! ## Pieces -/

/-- R134: samples fill at most `k` blocks when they are at most 256 times as many. -/
theorem blocksFor_le_iff (n k : Nat) : blocksFor n ≤ k ↔ n ≤ 256 * k := by
  unfold blocksFor
  omega

/-- R143: the next piece of a segment; the last one is the one with which its samples end. -/
theorem Segment.piece_eq (g : Segment) : g.piece =
    { segId := g.segId, channel := g.channel, hitId := g.hitId, index := g.nextPiece,
      firstTime := g.firstTime + BitVec.ofNat 48 (256 * g.nextPiece),
      samples := (g.samples.drop (256 * g.nextPiece)).take 256,
      last := decide (g.samples.length ≤ 256 * (g.nextPiece + 1)), cut := g.cut } := by
  unfold Segment.piece
  simp only [blocksFor_le_iff]

theorem takePiece_last {w : WaveStore} {i : Fin 64} {rest : List (Fin 64)} {g : Segment} (sendList : w.sendList = i :: rest)
    (last : g.samples.length ≤ 256 * (g.nextPiece + 1)) : w.takePiece i g =
      { w with segments := upd w.segments i fun _ => none, sendList := rest, sent := w.sent + 1, pieces := w.pieces + 1 } := by
  unfold WaveStore.takePiece
  rw [if_pos (by rw [Segment.piece_eq]; exact decide_eq_true last), sendList]
  rfl

theorem takePiece_more {w : WaveStore} {i : Fin 64} {g : Segment} (more : 256 * (g.nextPiece + 1) < g.samples.length) :
    w.takePiece i g =
      { w with
        segments := upd w.segments i fun _ =>
          some { g with state := .sending, blocks := g.blocks.tail, nextPiece := g.nextPiece + 1 }
        pieces := w.pieces + 1 } := by
  unfold WaveStore.takePiece
  rw [if_neg (by rw [Segment.piece_eq]; exact fun last => absurd (of_decide_eq_true last) (Nat.not_le.mpr more))]
  rfl

/-! ## Reports and ends of frames -/

theorem exec_readinessReport {s : State} (ready : Bool) (empty : s.link.inbound = []) :
    exec (.readinessReport ready) s = .next (schedule { s with rq := { s.rq with ready := ready } }) :=
  congrArg Host.Outcome.next (finish_of_empty empty)

theorem exec_frameSent {s : State} {f : UplinkFrame} (sending : s.rq.tx = some f) (empty : s.link.inbound = []) :
    exec .frameSent s = .next (schedule { s with rq := { s.rq with tx := none, framesSent := s.rq.framesSent + 1 } }) := by
  show execFrameSent s = _
  unfold execFrameSent completeFrame
  rw [sending]
  exact congrArg Host.Outcome.next (finish_of_empty empty)

/-- Settles O50: each source where no earlier one has anything. -/
theorem schedulerOrder : Obligations.SchedulerOrder := by
  refine ⟨fun s idle => ?_, fun s empty => ⟨fun ready busy => ?_, fun f sending => ?_, fun idle => ?_⟩⟩
  · show execFrameSent s = _
    unfold execFrameSent
    rw [idle]
  · rw [exec_readinessReport ready empty]
    refine congrArg Host.Outcome.next (schedule_idle ?_)
    show (s.rq.tx.isNone && ready) = false
    rcases busy with no | sending
    · rw [no, Bool.and_false]
    · rw [Option.isNone_eq_false_iff.mpr sending, Bool.false_and]
  · intro left
    refine ⟨fun deaf => ?_, fun ready => ?_⟩
    · rw [exec_frameSent sending empty]
      exact congrArg Host.Outcome.next (schedule_idle (s := left) (by show (true && s.rq.ready) = false; rw [deaf]; rfl))
    · rw [exec_frameSent sending empty, exec_readinessReport true (s := left) empty]
      show Host.Outcome.next (schedule left) = .next (schedule { left with rq := { left.rq with ready := true } })
      rw [← ready]
  · intro sends result
    have reported : exec (.readinessReport true) s = .next (scheduleFrom { s with rq := { s.rq with ready := true } }) := by
      rw [exec_readinessReport true empty]
      refine congrArg Host.Outcome.next (schedule_starts ?_)
      show (s.rq.tx.isNone && true) = true
      rw [idle]
      rfl
    have taken {t : State} (h : scheduleFrom { s with rq := { s.rq with ready := true } } = t) : result t :=
      reported.trans (congrArg Host.Outcome.next h)
    refine ⟨fun r rest responses => taken (scheduleFrom_response responses), fun quiet => ⟨fun some => taken (scheduleFrom_notices quiet some),
      fun none => ⟨fun e rest events => taken ?_, fun events => ?_⟩⟩⟩
    · exact (scheduleFrom_records (s := { s with rq := { s.rq with ready := true } }) quiet none).trans (scheduleEvents_event events)
    · intro eligible
      have hits : scheduleFrom { s with rq := { s.rq with ready := true } } = scheduleHits { s with rq := { s.rq with ready := true } } :=
        (scheduleFrom_records (s := { s with rq := { s.rq with ready := true } }) quiet none).trans (scheduleEvents_none events)
      refine ⟨fun due => taken (hits.trans (if_pos (hitsEligible_iff.mpr due))), fun early => ?_⟩
      have interval := hits.trans (if_neg (mt hitsEligible_iff.mp early))
      refine ⟨fun i slot => taken (interval.trans (scheduleInterval_slot slot)), fun empty => ?_⟩
      have waveform := interval.trans (scheduleInterval_none empty)
      refine ⟨fun none => taken (waveform.trans (scheduleWaveform_none none)), ?_⟩
      intro i rest g sendList segment piece
      have started := waveform.trans (scheduleWaveform_piece sendList segment)
      refine ⟨fun last => taken (started.trans ?_), fun more => taken (started.trans ?_)⟩
      · unfold startPiece
        rw [Segment.piece_eq]
        simp only [State.modWave, takePiece_last sendList last]
        rfl
      · unfold startPiece
        rw [Segment.piece_eq]
        simp only [State.modWave, takePiece_more more]
        rfl

/-! ## The flush expiry -/

theorem flushMoment_eq {s : State} {q : QueuedHit} {rest : List QueuedHit} (hits : s.rq.hits = q :: rest) :
    s.flushMoment = some (q.entryTime + s.tables.setup.flushUs) := by
  unfold State.flushMoment
  rw [hits]
  rfl

/-- R158, R1, R187: the flush moment comes with no timer before it. -/
theorem passLink_toFlush {s : State} {n d : Nat} (flush : s.flushMoment = some d) (lock : ∀ e, s.synth = .locking e → d ≤ e)
    (load : ∀ l, s.loader = some l → d ≤ l.expiry) : passLink n d s = setNow d s := by
  refine passLink_of_later fun timer e deadline => ?_
  cases timer with
  | lock =>
    unfold LinkTimer.deadline State.lockDeadline at deadline
    simp only at deadline
    split at deadline
    · next e' locking => exact Option.some.inj deadline ▸ lock _ locking
    all_goals cases deadline
  | load =>
    obtain ⟨l, loading, expiry⟩ := Option.map_eq_some_iff.mp deadline
    exact expiry ▸ load l loading
  | flush =>
    replace deadline : s.flushDeadline = some e := deadline
    unfold State.flushDeadline at deadline
    split at deadline
    · exact (Option.some.inj (flush.symm.trans deadline)).le
    · cases deadline

/-- Settles O51: at the flush moment the head has waited long enough. -/
theorem flushExpirySends : Obligations.FlushExpirySends := by
  refine fun s => ⟨fun none => ?_, ?_⟩
  · show Host.Outcome.next (takeFlush s) = _
    unfold takeFlush State.flushMoment
    rw [none]
    rfl
  · intro q rest hits empty moment lock load
    have flush := flushMoment_eq hits
    have taken : exec .flushExpiry s = .next (schedule (setNow moment s)) := by
      show Host.Outcome.next (takeFlush s) = _
      unfold takeFlush
      rw [flush]
      simp only [passLink_toFlush flush lock load]
      exact congrArg Host.Outcome.next (finish_of_empty empty)
    refine ⟨fun cannot => taken.trans (congrArg Host.Outcome.next (schedule_idle cannot)), fun idle ready responses notices events => ?_⟩
    refine taken.trans (congrArg Host.Outcome.next ?_)
    have can : (setNow moment s).canStart = true := by
      show (s.rq.tx.isNone && s.rq.ready) = true
      rw [idle, ready]
      rfl
    have waited : (setNow moment s).hitsEligible = true := by
      refine hitsEligible_iff.mpr ⟨q, rest, hits, .inr ?_⟩
      show s.tables.setup.flushUs ≤ max s.now (q.entryTime + s.tables.setup.flushUs) - q.entryTime
      omega
    rw [schedule_starts can, scheduleFrom_records (s := setNow moment s) responses notices, scheduleEvents_none (s := setNow moment s) events]
    exact if_pos waited

end Sys2Proof.Machine
end

section
/-! R46, R47, R50, R66, R69 to R73, R76: the measurements of an open hit and the features of a closed one (O54). -/

namespace Sys2Proof.Machine

/-! ## One sample -/

theorem fullScale_iff (smp : Sample) : fullScale smp = true ↔ smp.toInt = 32767 ∨ smp.toInt = -32768 := by
  unfold fullScale
  have most : smp.toInt < 2 ^ 15 := BitVec.toInt_lt
  simp only [Bool.or_eq_true, decide_eq_true_eq]
  omega

section
variable (h : OpenHit) (active : Bool) (pst : Nat) (tick : TestTime) (smp : Sample)

theorem OpenHit.update_counts_crossing (crossing : active = true ∧ h.prevActive = false) :
    (h.update active pst tick smp).counts = min (h.counts + 1) 65535 := by
  simp [OpenHit.update, crossing]

theorem OpenHit.update_counts_same (same : ¬ (active = true ∧ h.prevActive = false)) :
    (h.update active pst tick smp).counts = h.counts := by
  simp only [OpenHit.update]
  rw [if_neg (by simpa using same)]

/-- R72: the peak rule. -/
theorem OpenHit.update_replaces (replaces : h.peak < magnitude smp ∧ ticksBetween tick h.peakTime ≤ pst) :
    (h.update active pst tick smp).peak = magnitude smp ∧ (h.update active pst tick smp).peakTime = tick ∧
      (h.update active pst tick smp).countsToPeak = (h.update active pst tick smp).counts := by
  simp [OpenHit.update, replaces]

theorem OpenHit.update_keeps (keeps : ¬ (h.peak < magnitude smp ∧ ticksBetween tick h.peakTime ≤ pst)) :
    (h.update active pst tick smp).peak = h.peak ∧ (h.update active pst tick smp).peakTime = h.peakTime ∧
      (h.update active pst tick smp).countsToPeak = h.countsToPeak := by
  have off : (decide (h.peak < magnitude smp) && decide (ticksBetween tick h.peakTime ≤ pst)) = false := by
    simpa [← Bool.not_eq_true] using keeps
  simp [OpenHit.update, off]

theorem OpenHit.update_counts_bounds (limit : h.counts ≤ 65535) :
    h.counts ≤ (h.update active pst tick smp).counts ∧ (h.update active pst tick smp).counts ≤ 65535 := by
  by_cases crossing : active = true ∧ h.prevActive = false
  · rw [h.update_counts_crossing active pst tick smp crossing]
    omega
  · rw [h.update_counts_same active pst tick smp crossing]
    exact ⟨le_rfl, limit⟩

end

/-! ## The order of the measurements -/

/-- R68: one tick later is one tick more, while the difference does not wrap. -/
theorem ticksBetween_succ {tick earlier : TestTime} (fits : ticksBetween tick earlier + 1 < 2 ^ 48) :
    ticksBetween (tick + 1) earlier = ticksBetween tick earlier + 1 := by
  unfold ticksBetween at *
  bv_omega

/-- R47, R70 to R72: a sample keeps the order of the measurements, and a new peak is an active sample. -/
theorem OpenHit.Measured.update {h : OpenHit} {tick : TestTime} (measured : h.Measured tick) {thr : Nat} (above : thr ≤ h.peak) (pst : Nat)
    (smp : Sample) (fits : ticksBetween tick h.arrival + 1 < 2 ^ 48) :
    (h.update (decide (thr ≤ magnitude smp)) pst (tick + 1) smp).Measured (tick + 1) := by
  obtain ⟨first, order, limit, rise, duration⟩ := measured
  have later := ticksBetween_succ fits
  have bounds := h.update_counts_bounds (decide (thr ≤ magnitude smp)) pst (tick + 1) smp limit
  have activity : (h.update (decide (thr ≤ magnitude smp)) pst (tick + 1) smp).lastActivity =
      if thr ≤ magnitude smp then tick + 1 else h.lastActivity := by
    simp [OpenHit.update]
  have arrival : (h.update (decide (thr ≤ magnitude smp)) pst (tick + 1) smp).arrival = h.arrival := rfl
  by_cases replaces : h.peak < magnitude smp ∧ ticksBetween (tick + 1) h.peakTime ≤ pst
  · obtain ⟨peak, peakTime, countsToPeak⟩ := h.update_replaces (decide (thr ≤ magnitude smp)) pst (tick + 1) smp replaces
    rw [if_pos (above.trans replaces.1.le)] at activity
    refine ⟨?_, ?_, bounds.2, ?_, ?_⟩
    · rw [countsToPeak]
      omega
    · rw [countsToPeak]
    · rw [arrival, activity, peakTime]
    · rw [arrival, activity]
  · obtain ⟨peak, peakTime, countsToPeak⟩ := h.update_keeps (decide (thr ≤ magnitude smp)) pst (tick + 1) smp replaces
    refine ⟨?_, ?_, bounds.2, ?_, ?_⟩
    · rw [countsToPeak]
      exact first
    · rw [countsToPeak]
      omega
    · rw [arrival, activity, peakTime]
      split
      · omega
      · exact rise
    · rw [arrival, activity]
      split
      · exact le_rfl
      · omega

theorem OpenHit.peak_above {h : OpenHit} {thr : Nat} (above : thr ≤ h.peak) (active : Bool) (pst : Nat) (tick : TestTime) (smp : Sample) :
    thr ≤ (h.update active pst tick smp).peak := by
  by_cases replaces : h.peak < magnitude smp ∧ ticksBetween tick h.peakTime ≤ pst
  · rw [(h.update_replaces active pst tick smp replaces).1]
    exact above.trans replaces.1.le
  · rw [(h.update_keeps active pst tick smp replaces).1]
    exact above

/-! ## Energy -/

/-- The squares of a list of samples. -/
def squareSum (l : List Sample) : Nat := (l.map fun smp => magnitude smp * magnitude smp).sum

theorem squareSum_cons (smp : Sample) (l : List Sample) : squareSum (smp :: l) = magnitude smp * magnitude smp + squareSum l := rfl

/-- R46: the hit and the tick after one more sample. -/
def takeMeasured (thr pst : Nat) (p : OpenHit × TestTime) (smp : Sample) : OpenHit × TestTime :=
  (p.1.update (decide (thr ≤ magnitude smp)) pst (p.2 + 1) smp, p.2 + 1)

/-- R73: every square is in the energy sum or in the tail. -/
theorem foldl_energy (thr pst : Nat) (l : List Sample) (p : OpenHit × TestTime) :
    (l.foldl (takeMeasured thr pst) p).1.energySum + (l.foldl (takeMeasured thr pst) p).1.tailSum =
      p.1.energySum + p.1.tailSum + BitVec.ofNat 64 (squareSum l) := by
  induction l generalizing p with
  | nil => simp [squareSum]
  | cons smp l ih =>
    rw [List.foldl_cons, ih, squareSum_cons, BitVec.ofNat_add]
    unfold takeMeasured OpenHit.update
    by_cases active : thr ≤ magnitude smp
    · simp only [active, decide_true, if_true]
      ac_rfl
    · simp only [active, decide_false, Bool.false_eq_true, if_false]
      ac_rfl

/-- R73: an active sample leaves no tail. -/
theorem foldl_tail_of_active (thr pst : Nat) (l : List Sample) (p : OpenHit × TestTime) (start : p.1.tailSum = 0)
    (last : ∀ smp, l.getLast? = some smp → thr ≤ magnitude smp) : (l.foldl (takeMeasured thr pst) p).1.tailSum = 0 := by
  rcases List.eq_nil_or_concat l with rfl | ⟨front, smp, rfl⟩
  · exact start
  · have active := last smp (by simp)
    rw [List.concat_eq_append, List.foldl_append]
    simp [takeMeasured, OpenHit.update, active]

/-- R73: samples below the threshold code leave the energy sum. -/
theorem foldl_energy_of_inactive (thr pst : Nat) (l : List Sample) (p : OpenHit × TestTime) (quiet : ∀ smp ∈ l, magnitude smp < thr) :
    (l.foldl (takeMeasured thr pst) p).1.energySum = p.1.energySum := by
  induction l generalizing p with
  | nil => rfl
  | cons smp l ih =>
    rw [List.foldl_cons, ih _ fun x mem => quiet x (.tail _ mem)]
    have inactive := Nat.not_le.mpr (quiet smp (.head _))
    simp [takeMeasured, OpenHit.update, inactive]

theorem energy_fold {h : OpenHit} (thr pst : Nat) (tick : TestTime) {before after : List Sample} (start : h.tailSum = 0)
    (last : ∀ smp, before.getLast? = some smp → thr ≤ magnitude smp) (quiet : ∀ smp ∈ after, magnitude smp < thr) :
    ((before ++ after).foldl (takeMeasured thr pst) (h, tick)).1.energySum = h.energySum + BitVec.ofNat 64 (squareSum before) ∧
      ((before ++ after).foldl (takeMeasured thr pst) (h, tick)).1.tailSum = BitVec.ofNat 64 (squareSum after) := by
  rw [List.foldl_append]
  have sum := foldl_energy thr pst before (h, tick)
  have noTail := foldl_tail_of_active thr pst before (h, tick) start last
  generalize before.foldl (takeMeasured thr pst) (h, tick) = p at sum noTail ⊢
  have energy := foldl_energy_of_inactive thr pst after p quiet
  have sumThen := foldl_energy thr pst after p
  rw [noTail, start, add_zero, add_zero] at sum
  rw [noTail, add_zero, energy] at sumThen
  exact ⟨energy.trans sum, (BitVec.add_right_inj _).mp sumThen⟩

/-! ## Features -/

/-- R63: the ladder ends at 100 dB. -/
theorem ladderLevel_le (m lsb : Nat) : ladderLevel m lsb ≤ 100 := by
  have short := (List.takeWhile_prefix (fun v => decide (v ≤ m * lsb)) (l := ladderTable)).length_le
  have length : ladderTable.length = 101 := by decide
  unfold ladderLevel
  omega

/-- Settles O54: the update of an open hit field by field, its order, its energy, and the features of the closed hit. -/
theorem hitMeasurementsKeepTheirOrder : Obligations.HitMeasurementsKeepTheirOrder := by
  refine ⟨?_, ?_, ?_, ?_, fun _ _ _ _ _ => rfl⟩
  · intro h active pst tick smp h' crossing replaces
    exact ⟨h.update_counts_crossing active pst tick smp, h.update_counts_same active pst tick smp, rfl, rfl,
      h.update_replaces active pst tick smp, h.update_keeps active pst tick smp, rfl⟩
  · intro h thr pst tick smp measured above fits h'
    refine ⟨measured.update above pst smp fits, OpenHit.peak_above above _ _ _ _, rfl, rfl, rfl, rfl, rfl, rfl, ?_⟩
    show (h.clipped || fullScale smp) = true ↔ _
    rw [Bool.or_eq_true, fullScale_iff]
  · intro h thr pst tick before after start last quiet take lastHit squares
    exact energy_fold thr pst tick start last quiet
  · intro h ch e tick cause measured level c
    exact ⟨rfl, max_le (ladderLevel_le _ _) level, measured.rise, measured.first, measured.order, measured.limit, rfl⟩

end Sys2Proof.Machine
end

section
/-! Hits without and with a segment, hits of no context, and the fate of a record (sections 5.1, 8.4, 9.2, 9.6). -/

namespace Sys2Proof.Machine

/-! ## The segment of a hit -/

section segment
variable {s : State} {ch : Channel} {id : Counter}

theorem freeSegmentOf_none (none : s.wave.find ch id = none) : freeSegmentOf ch id s = s := by
  simp only [freeSegmentOf, none]

theorem segmentFillEnd_none (none : s.wave.find ch id = none) : segmentFillEnd ch id s = s := by
  simp only [segmentFillEnd, none]

theorem segmentFill_none {smp : Sample} (none : s.wave.find ch id = none) : segmentFill ch id smp s = s := by
  simp only [segmentFill, none]

theorem segmentWait_none (none : s.wave.find ch id = none) : segmentWait ch id s = s := by
  simp only [segmentWait, none]

theorem segmentLeavesContext_none (none : s.wave.find ch id = none) : segmentLeavesContext ch id s = s := by
  simp only [segmentLeavesContext, none]

theorem segmentAdmitted_none {p : Path} (none : s.wave.find ch id = none) : segmentAdmitted p ch id s = (s, .none) := by
  simp only [segmentAdmitted, none]

variable {i : Fin 64} {g : Segment}

theorem freeSegmentOf_some (found : s.wave.find ch id = some i) : freeSegmentOf ch id s = freeSegment i s := by
  simp only [freeSegmentOf, found]

theorem segmentFillEnd_fits (found : s.wave.find ch id = some i) (held : s.wave.segments[i] = some g)
    (fits : g.blocks.length ≤ blocksFor g.samples.length) : segmentFillEnd ch id s = s := by
  simp only [segmentFillEnd, found, held, Nat.not_lt.mpr fits, if_false]

theorem segmentFillEnd_returns (found : s.wave.find ch id = some i) (held : s.wave.segments[i] = some g)
    (more : blocksFor g.samples.length < g.blocks.length) :
    segmentFillEnd ch id s =
      evalShed (s.modWave fun w => w.put i (some { g with blocks := g.blocks.take (blocksFor g.samples.length) })) := by
  simp only [segmentFillEnd, found, held, more, if_true]

theorem segmentFill_some {smp : Sample} (found : s.wave.find ch id = some i) (held : s.wave.segments[i] = some g) :
    segmentFill ch id smp s = if g.state = .filling then s.modWave fun w => w.put i (some (g.append smp)) else s := by
  simp only [segmentFill, found, held]

theorem segmentWait_some (found : s.wave.find ch id = some i) (held : s.wave.segments[i] = some g) :
    segmentWait ch id s = s.modWave fun w => w.put i (some { g with state := .waitEvent }) := by
  simp only [segmentWait, found, held]

theorem segmentLeavesContext_some (found : s.wave.find ch id = some i) (held : s.wave.segments[i] = some g) :
    segmentLeavesContext ch id s = if g.mode = .eventOnly then freeSegment i s else s := by
  simp only [segmentLeavesContext, found, held]

theorem segmentAdmitted_some {p : Path} (found : s.wave.find ch id = some i) (held : s.wave.segments[i] = some g) :
    segmentAdmitted p ch id s =
      if p.completes g.mode then (segmentComplete i g s, some g.segId) else (freeSegment i s, none) := by
  simp only [segmentAdmitted, found, held]

end segment

/-! ## The open member of a hit -/

theorem isOpenHit_iff {ch : Channel} {id : Counter} {m : Member} :
    m.isOpenHit ch id = true ↔ m.parked = none ∧ m.channel = ch ∧ m.hitId = id := by
  simp only [Member.isOpenHit, Bool.and_eq_true, Option.isNone_iff_eq_none, beq_iff_eq, and_assoc]

theorem isOpenHit_iff_closes {h : ClosedHit} {m : Member} : m.isOpenHit h.channel h.hitId = true ↔ m.Closes h :=
  isOpenHit_iff.trans ⟨fun ⟨a, b, c⟩ => ⟨a, b, c⟩, fun ⟨a, b, c⟩ => ⟨a, b, c⟩⟩

theorem memberOf_eq_none {a : Assembler} {ch : Channel} {id : Counter}
    (none : ∀ (k : Fin 4) (x : Context) (m : Member), a.contexts[k] = some x → m ∈ x.members →
      ¬ (m.parked = .none ∧ m.channel = ch ∧ m.hitId = id)) : a.memberOf ch id = .none := by
  refine List.find?_eq_none.mpr fun k _ => ?_
  cases used : a.contexts[k] with
  | none => exact Bool.false_ne_true
  | some x =>
    intro found
    obtain ⟨m, member, isHit⟩ := List.any_eq_true.mp found
    exact none k x m used member (isOpenHit_iff.mp isHit)

/-! ## The shed level -/

theorem evalShed_moves {s : State} {level : Fin 4} (step : shedStep s.rq.shed s.rq.hits.length s.wave.freeBlocks = level)
    (moved : level ≠ s.rq.shed) :
    evalShed s = setFactor .shedChanged level.val none { s with rq := { s.rq with shed := level } } := by
  unfold evalShed
  simp only [step, if_neg moved]

theorem evalShed_stays {s : State} (step : shedStep s.rq.shed s.rq.hits.length s.wave.freeBlocks = s.rq.shed) : evalShed s = s :=
  if_pos step

/-! ## Writes that commute with a change of a channel's counters -/

theorem setFactor_modCounts (f : Factor) (index : Nat) (reached : Option Nat) (ch : Channel) (g : ChannelCounts → ChannelCounts)
    (s : State) : setFactor f index reached (s.modCounts ch g) = (setFactor f index reached s).modCounts ch g := by
  cases set : s.cond.factors.get f with
  | true => rw [setFactor_of_set set, setFactor_of_set (s := s.modCounts ch g) set]
  | false =>
    rw [setFactor_of_clear set, setFactor_of_clear (s := s.modCounts ch g) set,
      show (s.modCounts ch g).noticesEdge f = s.noticesEdge f from rfl]
    split <;> rfl

theorem evalShed_modCounts (ch : Channel) (g : ChannelCounts → ChannelCounts) (s : State) :
    evalShed (s.modCounts ch g) = (evalShed s).modCounts ch g := by
  by_cases step : shedStep s.rq.shed s.rq.hits.length s.wave.freeBlocks = s.rq.shed
  · rw [evalShed_stays step, evalShed_stays (s := s.modCounts ch g) step]
  · rw [evalShed_moves rfl step, evalShed_moves (s := s.modCounts ch g) rfl step]
    exact setFactor_modCounts _ _ _ ch g { s with rq := { s.rq with shed := _ } }

theorem freeSegment_modCounts (i : Fin 64) (ch : Channel) (g : ChannelCounts → ChannelCounts) (s : State) :
    freeSegment i (s.modCounts ch g) = (freeSegment i s).modCounts ch g :=
  evalShed_modCounts ch g (s.modWave fun w => { w.put i none with discarded := w.discarded + 1 })

theorem segmentAdmitted_modCounts (p : Path) (ch : Channel) (id : Counter) (j : Channel) (g : ChannelCounts → ChannelCounts)
    (s : State) :
    segmentAdmitted p ch id (s.modCounts j g) = ((segmentAdmitted p ch id s).1.modCounts j g, (segmentAdmitted p ch id s).2) := by
  cases found : s.wave.find ch id with
  | none => rw [segmentAdmitted_none found, segmentAdmitted_none (s := s.modCounts j g) found]
  | some i =>
    cases held : s.wave.segments[i] with
    | none => simp only [segmentAdmitted, State.modCounts_wave, found, held]
    | some seg =>
      rw [segmentAdmitted_some found held, segmentAdmitted_some (s := s.modCounts j g) found held, freeSegment_modCounts]
      split <;> rfl

/-! ## The fate of a record -/

theorem floorSheds_iff {c : ClosedHit} {s : State} :
    floorSheds c s = true ↔ 2 ≤ s.rq.shed.val ∧ c.role = .data ∧ c.amplitude < s.tables.setup.shedFloorDb := by
  simp only [floorSheds, Bool.and_eq_true, decide_eq_true_eq, beq_iff_eq, and_assoc]

theorem offerStandalone_sheds {c : ClosedHit} {s : State} (t : EventTag) (floor : floorSheds c s = true) :
    offerStandalone t c s = shedRecord c s := if_pos floor

theorem offerStandalone_loses {c : ClosedHit} {s : State} (t : EventTag) (floor : ¬ floorSheds c s = true)
    (full : 256 ≤ s.rq.hits.length) : offerStandalone t c s = loseRecord c s := by
  unfold offerStandalone
  exact (if_neg floor).trans (if_pos full)

theorem offerStandalone_admits {c : ClosedHit} {s : State} (t : EventTag) (floor : ¬ floorSheds c s = true)
    (room : s.rq.hits.length < 256) : offerStandalone t c s = admitRecord .standalone c t s := by
  unfold offerStandalone
  exact (if_neg floor).trans (if_neg (Nat.not_le.mpr room))

theorem shedRecord_none {c : ClosedHit} {s : State} (none : s.wave.find c.channel c.hitId = none) :
    shedRecord c s = s.modCounts c.channel fun k => { k with shed := k.shed + 1 } :=
  freeSegmentOf_none (s := s.modCounts c.channel _) none

theorem shedRecord_some {c : ClosedHit} {s : State} {i : Fin 64} (found : s.wave.find c.channel c.hitId = some i) :
    shedRecord c s = freeSegment i (s.modCounts c.channel fun k => { k with shed := k.shed + 1 }) :=
  freeSegmentOf_some (s := s.modCounts c.channel _) found

/-- R151, R152: the counts of a lost record. -/
def State.losing (c : ClosedHit) (s : State) : State :=
  (s.modCounts c.channel fun k => { k with lost := k.lost + 1, gap := min (k.gap + 1) gapLimit }).modFigures c.channel
    fun g => { g with lost := g.lost + 1 }

theorem loseRecord_eq (c : ClosedHit) (s : State) :
    loseRecord c s = setFactor .hitLoss 0 none (freeSegmentOf c.channel c.hitId (s.losing c)) := rfl

theorem loseRecord_none {c : ClosedHit} {s : State} (none : s.wave.find c.channel c.hitId = none) :
    loseRecord c s = setFactor .hitLoss 0 .none (s.losing c) := by
  rw [loseRecord_eq, freeSegmentOf_none (s := s.losing c) none]

theorem loseRecord_some {c : ClosedHit} {s : State} {i : Fin 64} (found : s.wave.find c.channel c.hitId = some i) :
    loseRecord c s = setFactor .hitLoss 0 none (freeSegment i (s.losing c)) := by
  rw [loseRecord_eq, freeSegmentOf_some (s := s.losing c) found]

/-- R150: a record with this event tag and seg_id enters the Hit Queue and takes the gap of its channel. -/
def State.entered (c : ClosedHit) (t : EventTag) (gap : Nat) (seg : Option Counter) (s : State) : State :=
  (enqueueHit (recordOf c t (gapField gap) seg) s).modCounts c.channel fun k => { k with gap := 0, queued := k.queued + 1 }

theorem admitRecord_eq (p : Path) (c : ClosedHit) (t : EventTag) (s : State) :
    admitRecord p c t s =
      evalShed ((segmentAdmitted p c.channel c.hitId s).1.entered c t s.rq.counts[c.channel].gap
        (segmentAdmitted p c.channel c.hitId s).2) := by
  simp only [admitRecord, segmentAdmitted_modCounts]
  generalize segmentAdmitted p c.channel c.hitId s = decided
  simp only [State.entered, State.modCounts, enqueueHit, upd_upd]

theorem admitRecord_none {c : ClosedHit} {s : State} (p : Path) (t : EventTag) (none : s.wave.find c.channel c.hitId = none) :
    admitRecord p c t s = evalShed (s.entered c t s.rq.counts[c.channel].gap .none) := by
  rw [admitRecord_eq, segmentAdmitted_none none]

theorem admitRecord_completes {c : ClosedHit} {s : State} {i : Fin 64} {g : Segment} {p : Path} (t : EventTag)
    (found : s.wave.find c.channel c.hitId = some i) (held : s.wave.segments[i] = some g) (completes : p.completes g.mode = true) :
    admitRecord p c t s = evalShed ((segmentComplete i g s).entered c t s.rq.counts[c.channel].gap (some g.segId)) := by
  rw [admitRecord_eq, segmentAdmitted_some found held, if_pos completes]

theorem admitRecord_frees {c : ClosedHit} {s : State} {i : Fin 64} {g : Segment} {p : Path} (t : EventTag)
    (found : s.wave.find c.channel c.hitId = some i) (held : s.wave.segments[i] = some g) (frees : ¬ p.completes g.mode = true) :
    admitRecord p c t s = evalShed ((freeSegment i s).entered c t s.rq.counts[c.channel].gap none) := by
  rw [admitRecord_eq, segmentAdmitted_some found held, if_neg frees]

/-! ## Filters -/

theorem Closure.judged_iff {c : Closure} : c.judged = true ↔ c = .normal ∨ c = .truncated := by
  cases c <;> decide

theorem FilterRule.rejects_iff (r : FilterRule) (c : ClosedHit) :
    r.rejects c = true ↔ r.active = true ∧ r.channelMask.getLsbD c.channel.val = true ∧
      ((r.action = .rejectInside ∧ r.low ≤ c.featureValue r.feature ∧ c.featureValue r.feature ≤ r.high) ∨
        (r.action = .rejectOutside ∧ (c.featureValue r.feature < r.low ∨ r.high < c.featureValue r.feature))) := by
  unfold FilterRule.rejects
  cases r.action with
  | rejectInside => simp [and_assoc]
  | rejectOutside => simp [and_assoc]

theorem filterRejects_iff (rules : Vector FilterRule 8) (c : ClosedHit) :
    filterRejects rules c = true ↔ c.cause.judged = true ∧ ∃ i : Fin 8, (rules[i]).rejects c = true := by
  unfold filterRejects
  rw [Bool.and_eq_true, List.any_eq_true]
  refine and_congr_right fun _ => ⟨fun ⟨r, member, rejects⟩ => ?_, fun ⟨i, rejects⟩ => ⟨rules[i], ?_, rejects⟩⟩
  · obtain ⟨i, below, same⟩ := Vector.mem_iff_getElem.mp (Vector.mem_toList_iff.mp member)
    exact ⟨⟨i, below⟩, same ▸ rejects⟩
  · exact Vector.mem_toList_iff.mpr (Vector.getElem_mem i.isLt)

theorem handOn_rejected {c : ClosedHit} {s : State} (fits : segmentFillEnd c.channel c.hitId s = s)
    (rejected : filterRejects s.tables.filter c = true) : handOn c s = rejectHit c s := by
  simp only [handOn, fits, rejected, if_true]

theorem handOn_passed {c : ClosedHit} {s : State} (fits : segmentFillEnd c.channel c.hitId s = s)
    (passed : filterRejects s.tables.filter c = false) : handOn c s = passHit c s := by
  simp only [handOn, fits, passed, Bool.false_eq_true, if_false]

theorem rejectHit_alone {c : ClosedHit} {s : State} (alone : s.asm.memberOf c.channel c.hitId = none) :
    rejectHit c s = freeSegmentOf c.channel c.hitId (s.modCounts c.channel fun k => { k with filtered := k.filtered + 1 }) := by
  have kept := (freeSegmentOf_booked c.channel c.hitId (s.modCounts c.channel fun k => { k with filtered := k.filtered + 1 })).asm
  unfold rejectHit
  simp only [kept, State.modCounts_asm, alone]

theorem passHit_alone {c : ClosedHit} {s : State} (alone : s.asm.memberOf c.channel c.hitId = none) :
    passHit c s = offerStandalone EventTag.none c s := by
  simp only [passHit, alone]

/-- Settles O55: both halves by the case split of the filters and of R82, for a hit without a segment. -/
theorem filtersJudgeClosedHits : Obligations.FiltersJudgeClosedHits := by
  refine ⟨fun rules c => ?_, fun s c noSegment noMember => ⟨fun rejected => ?_, fun passed => ?_⟩⟩
  · rw [filterRejects_iff, Closure.judged_iff]
    refine and_congr_right fun _ => exists_congr fun i => ?_
    exact FilterRule.rejects_iff _ c
  · rw [handOn_rejected (segmentFillEnd_none noSegment) rejected, rejectHit_alone (memberOf_eq_none noMember),
      freeSegmentOf_none (s := s.modCounts c.channel _) noSegment]
    rfl
  · rw [handOn_passed (segmentFillEnd_none noSegment) passed, passHit_alone (memberOf_eq_none noMember)]
    rfl

/-- Settles O56: the record field by field; the shed level's step in each of its four cases; and the three fates of a record. -/
theorem standaloneRecordsAreShedLostOrAdmitted : Obligations.StandaloneRecordsAreShedLostOrAdmitted := by
  refine ⟨fun c tag gap seg => rfl, ?_, ?_⟩
  · intro s n f moves stays
    have free : s.wave.freeBlocks = f := freeBlocks_eq s.wave
    have moved {level : Fin 4} (step : shedStep s.rq.shed n f = level) (other : level ≠ s.rq.shed) : moves level :=
      evalShed_moves (by rw [free]; exact step) other
    have stayed (step : shedStep s.rq.shed n f = s.rq.shed) : stays := evalShed_stays (by rw [free]; exact step)
    refine ⟨fun level => ⟨fun up => ?_, fun few room => ?_⟩, fun level => ⟨fun up => ?_, fun few room => ?_, fun between full => ?_⟩,
      fun level => ⟨fun up => ?_, fun few => ?_, fun above below => ?_⟩, fun level => ⟨fun few => ?_, fun many => ?_⟩⟩
    · exact moved (by rw [level]; exact if_pos up) (by rw [level]; decide)
    · exact stayed (by rw [level]; exact if_neg (by omega))
    · exact moved (by rw [level]; exact if_pos up) (by rw [level]; decide)
    · exact moved (by rw [level]; exact (if_neg (by omega)).trans (if_pos ⟨few, room⟩)) (by rw [level]; decide)
    · exact stayed (by rw [level]; exact (if_neg (by omega)).trans (if_neg (by omega)))
    · exact moved (by rw [level]; exact if_pos up) (by rw [level]; decide)
    · exact moved (by rw [level]; exact (if_neg (by omega)).trans (if_pos few)) (by rw [level]; decide)
    · exact stayed (by rw [level]; exact (if_neg (by omega)).trans (if_neg (by omega)))
    · exact moved (by rw [level]; exact if_pos few) (by rw [level]; decide)
    · exact stayed (by rw [level]; exact if_neg (by omega))
  · intro s c tag k floor gap admitted
    have sheds : floorSheds c s = true ↔ floor := floorSheds_iff
    refine ⟨fun none => ⟨fun below => ?_, fun above full => ?_, fun above room => ?_⟩, fun i g found held all above room => ?_⟩
    · rw [offerStandalone_sheds tag (sheds.mpr below), shedRecord_none none]
      rfl
    · rw [offerStandalone_loses tag (sheds.not.mpr above) full, loseRecord_none none]
      rfl
    · rw [offerStandalone_admits tag (sheds.not.mpr above) room, admitRecord_none _ tag none]
      rfl
    · rw [offerStandalone_admits tag (sheds.not.mpr above) room, admitRecord_completes tag found held (by rw [all]; rfl)]
      rfl

end Sys2Proof.Machine
end

section
/-! A sample taken in IN_HIT, and the closure of a hit (sections 3.3, 3.4, 8.4). -/

namespace Sys2Proof.Machine

/-! ## What the way of a closed hit leaves of detectors and lanes -/

/-- Work that leaves the lanes alone, and of the detectors everything but marks on open hits. -/
structure Marks (s t : State) : Prop where
  lanes : t.lanes = s.lanes
  dets : ∀ ch : Channel, ∃ f : OpenHit → OpenHit, t.dets[ch] = s.dets[ch].modOpen f

theorem Detector.modOpen_id (d : Detector) : d.modOpen id = d := by
  unfold Detector.modOpen
  split
  · next isOpen => simp only [id, ← isOpen]
  all_goals rfl

theorem Detector.modOpen_modOpen (f g : OpenHit → OpenHit) (d : Detector) : (d.modOpen f).modOpen g = d.modOpen fun h => g (f h) := by
  unfold Detector.modOpen
  cases isOpen : d.machine <;> simp only [isOpen]

theorem Detector.modOpen_closed {d : Detector} (closed : ∀ h, d.machine ≠ .inHit h) (f : OpenHit → OpenHit) : d.modOpen f = d := by
  unfold Detector.modOpen
  split
  · next h isOpen => exact absurd isOpen (closed h)
  all_goals rfl

theorem Detector.modOpen_open {d : Detector} {h : OpenHit} (isOpen : d.machine = .inHit h) (f : OpenHit → OpenHit) :
    d.modOpen f = { d with machine := .inHit (f h) } := by
  unfold Detector.modOpen
  rw [isOpen]

theorem Marks.of_same {s t : State} (lanes : t.lanes = s.lanes) (dets : t.dets = s.dets) : Marks s t :=
  ⟨lanes, fun ch => ⟨id, by rw [dets, Detector.modOpen_id]⟩⟩

theorem Marks.refl (s : State) : Marks s s := .of_same rfl rfl

theorem Marks.trans {s t u : State} (h : Marks s t) (k : Marks t u) : Marks s u := by
  refine ⟨k.lanes.trans h.lanes, fun ch => ?_⟩
  obtain ⟨f, first⟩ := h.dets ch
  obtain ⟨g, second⟩ := k.dets ch
  exact ⟨fun x => g (f x), by rw [second, first, Detector.modOpen_modOpen]⟩

theorem Marks.foldl {α : Type} {f : State → α → State} (h : ∀ s a, Marks s (f s a)) (as : List α) (s : State) :
    Marks s (as.foldl f s) := by
  induction as generalizing s with
  | nil => exact .refl s
  | cons a as ih => exact (h s a).trans (ih _)

/-- A detector without an open hit is not touched. -/
theorem Marks.det {s t : State} {ch : Channel} (h : Marks s t) (closed : ∀ k, s.dets[ch].machine ≠ .inHit k) :
    t.dets[ch] = s.dets[ch] := by
  obtain ⟨f, same⟩ := h.dets ch
  rw [same, Detector.modOpen_closed closed]

theorem Booked.marks {s t : State} (h : Booked s t) : Marks s t := .of_same h.lanes h.dets

theorem Fated.marks {ch : Channel} {s t : State} (h : Fated ch s t) : Marks s t :=
  .of_same (by rw [h.eq]) (by rw [h.eq])

theorem modOpen_marks (ch : Channel) (f : OpenHit → OpenHit) (s : State) : Marks s (s.modOpen ch f) := by
  refine ⟨rfl, fun j => ?_⟩
  simp only [State.modOpen, State.modDet, upd_get]
  split
  · exact ⟨f, rfl⟩
  · exact ⟨id, (Detector.modOpen_id _).symm⟩

theorem dissolveOpen_marks (m : Member) (s : State) : Marks s (dissolveOpen m s) := by
  unfold dissolveOpen
  split
  · exact .refl s
  · exact (modOpen_marks m.channel _ s).trans (segmentLeavesContext_booked _ _ _).marks

theorem dissolve_marks (k : Fin 4) (members : List Member) (s : State) : Marks s (dissolve k members s) := by
  have counted : Marks s (if members.isEmpty then s.putContext k none
      else (s.putContext k none).modAsm fun a => { a with eventsDissolved := a.eventsDissolved + 1 }) := by
    split <;> exact .of_same rfl rfl
  exact (counted.trans (.foldl (fun u c => (offerStandalone_fated _ (orphan c) u).marks) _ _)).trans
    (.foldl (fun u m => dissolveOpen_marks m u) _ _)

theorem dissolveAll_marks (s : State) : Marks s (dissolveAll s) := by
  refine .foldl (fun u k => ?_) contextNumbers s
  split
  · exact dissolve_marks k _ u
  · exact .refl u

theorem handMembers_marks (eventId : Counter) (hits : List ClosedHit) (s : State) : Marks s (handMembers eventId hits s) := by
  unfold handMembers
  split
  · exact .foldl (fun u c => (offerMember_fated eventId c u).marks) hits s
  · exact .foldl (fun u c => (shedRecord_fated c u).marks) hits s

theorem zoneRule_marks (z : Zone) (s : State) : Marks s (zoneRule z s) := by
  unfold zoneRule
  simp only
  split
  · split
    · exact Marks.trans (t := { s with hist := { s.hist with holdCounts := upd s.hist.holdCounts z fun n => n + 1 } }) (.of_same rfl rfl)
        (raise_booked _ _).marks
    · exact .of_same rfl rfl
  · exact .refl s

theorem queueEvent_marks (r : EventRecord) (hits : List ClosedHit) (s : State) : Marks s (queueEvent r hits s) := by
  have queued : Marks s (({ s with rq := { s.rq with events := s.rq.events ++ [r] } } : State).modAsm
      fun a => { a with eventsQueued := a.eventsQueued + 1 }) := .of_same rfl rfl
  refine (queued.trans (handMembers_marks r.eventId hits _)).trans (Marks.trans ?_ (zoneRule_marks r.zone _))
  exact .of_same rfl rfl

theorem loseEvent_marks (eventId : Counter) (hits : List ClosedHit) (s : State) : Marks s (loseEvent eventId hits s) := by
  have counted : Marks s (s.modAsm fun a => { a with eventsLost := a.eventsLost + 1 }) := .of_same rfl rfl
  exact (counted.trans (raise_booked .eventLoss _).marks).trans (.foldl (fun u c => (offerStandalone_fated _ c u).marks) hits _)

theorem complete_marks (k : Fin 4) (c : Context) (m1 m2 : Member) (s : State) : Marks s (complete k c m1 m2 s) := by
  have taken : Marks s ((s.putContext k none).modAsm fun a => { a with nextEvent := a.nextEvent + 1 }) := .of_same rfl rfl
  unfold complete
  simp only
  split
  · exact taken.trans (queueEvent_marks _ _ _)
  · exact taken.trans (loseEvent_marks _ _ _)

theorem testComplete_marks (k : Fin 4) (c : Context) (s : State) : Marks s (testComplete k c s) := by
  unfold testComplete
  split
  · split
    · exact complete_marks k c _ _ s
    · exact .of_same rfl rfl
  · exact .of_same rfl rfl

theorem parkMember_marks (k : Fin 4) (c : Context) (hit : ClosedHit) (s : State) : Marks s (parkMember k c hit s) := by
  refine (segmentWait_booked hit.channel hit.hitId s).marks.trans ?_
  unfold parkMember
  generalize segmentWait hit.channel hit.hitId s = u
  have put (c' : Context) : Marks u (u.putContext k (some c')) := .of_same rfl rfl
  simp only
  cases hit.cause with
  | aborted | clockFault => exact put _
  | normal | truncated | laneFault =>
    simp only
    split
    · exact testComplete_marks k _ u
    · exact put _

theorem removeMember_marks (k : Fin 4) (c : Context) (ch : Channel) (id : Counter) (s : State) : Marks s (removeMember k c ch id s) := by
  unfold removeMember
  simp only
  split
  · exact dissolve_marks k _ s
  · split
    · split
      · exact dissolve_marks k _ s
      · exact testComplete_marks k _ s
    · exact .of_same rfl rfl

/-- R79 to R82: the way of a closed hit leaves the lanes alone, and of the detectors everything but marks on open hits. -/
theorem handOn_marks (c : ClosedHit) (s : State) : Marks s (handOn c s) := by
  refine (segmentFillEnd_booked c.channel c.hitId s).marks.trans ?_
  unfold handOn
  generalize segmentFillEnd c.channel c.hitId s = u
  simp only
  split
  · have freed : Marks u (freeSegmentOf c.channel c.hitId (u.modCounts c.channel fun k => { k with filtered := k.filtered + 1 })) :=
      Marks.trans (t := u.modCounts c.channel fun k => { k with filtered := k.filtered + 1 }) (.of_same rfl rfl)
        (freeSegmentOf_booked _ _ _).marks
    unfold rejectHit
    simp only
    split
    · exact freed
    · split
      · exact freed.trans (removeMember_marks _ _ _ _ _)
      · exact freed
  · unfold passHit
    split
    · exact (offerStandalone_fated _ c u).marks
    · split
      · exact parkMember_marks _ _ c u
      · exact (offerStandalone_fated _ c u).marks

/-! ## A closure -/

/-- R52: the continuous run after a closure. -/
def Closure.run (cause : Closure) (before : Nat) : Nat :=
  match cause with
  | .truncated => min (before + 1) 65535
  | .normal | .laneFault | .aborted | .clockFault => 0

/-- R52: the continuous run of a channel set. -/
def State.withRun (ch : Channel) (run : Nat) (s : State) : State := s.modDet ch fun d => { d with contRun := run }

theorem continuousRun_eq (ch : Channel) (cause : Closure) (s : State) :
    continuousRun ch cause s =
      if cause = .truncated ∧ s.tables.setup.continuousRun ≤ cause.run s.dets[ch].contRun then
        setFactor (.continuous ch) ch.val none (s.withRun ch (cause.run s.dets[ch].contRun))
      else s.withRun ch (cause.run s.dets[ch].contRun) := by
  cases cause with
  | truncated =>
    have counted : (s.modDet ch fun d => { d with contRun := min (d.contRun + 1) 65535 })
        = s.withRun ch (Closure.run .truncated s.dets[ch].contRun) :=
      congrArg (fun dets => ({ s with dets := dets } : State)) (upd_congr s.dets ch rfl)
    have run : (s.withRun ch (Closure.run .truncated s.dets[ch].contRun)).dets[ch].contRun
        = Closure.run .truncated s.dets[ch].contRun := by
      simp only [State.withRun, State.modDet, upd_same]
    unfold continuousRun
    simp only [counted, run, true_and]
    rfl
  | normal | laneFault | aborted | clockFault => rfl

theorem withRun_det (ch : Channel) (run : Nat) (s : State) : (s.withRun ch run).dets[ch] = { s.dets[ch] with contRun := run } := by
  simp only [State.withRun, State.modDet, upd_same]

theorem continuousRun_det (ch : Channel) (cause : Closure) (s : State) :
    (continuousRun ch cause s).dets[ch] = { s.dets[ch] with contRun := cause.run s.dets[ch].contRun } := by
  have dets : (continuousRun ch cause s).dets = (s.withRun ch (cause.run s.dets[ch].contRun)).dets := by
    rw [continuousRun_eq]
    split
    · exact setFactor_dets _ _ _ _
    · rfl
  exact (congrArg (fun dets : Vector Detector 16 => dets[ch]) dets).trans (withRun_det ch _ s)

/-- R48 to R52: a closure up to the entry that may wait. -/
def State.closing (ch : Channel) (cause : Closure) (h : OpenHit) (s : State) : State :=
  continuousRun ch cause (handOn (closedHitOf ch s.dets[ch].active s.tt cause h) (s.modDet ch (Detector.afterClosure (cause.rearms s.acq))))

/-- R48, R52: the detector of a closed hit, before a waiting entry is applied. -/
def Detector.closedBy (cause : Closure) (a : Acq) (d : Detector) : Detector :=
  { d with machine := if cause.rearms a then .rearmHold else .blocked, rearm := d.active.rht, contRun := cause.run d.contRun }

theorem afterClosure_closed (rearms : Bool) (d : Detector) (h : OpenHit) : (d.afterClosure rearms).machine ≠ .inHit h := by
  cases rearms <;> exact DetState.noConfusion

theorem handOn_afterClosure_det (ch : Channel) (c : ClosedHit) (rearms : Bool) (s : State) :
    (handOn c (s.modDet ch (Detector.afterClosure rearms))).dets[ch] = s.dets[ch].afterClosure rearms := by
  have left : (s.modDet ch (Detector.afterClosure rearms)).dets[ch] = s.dets[ch].afterClosure rearms := by
    simp only [State.modDet, upd_same]
  rw [(handOn_marks c _).det (by rw [left]; exact afterClosure_closed rearms _), left]

theorem closing_det (ch : Channel) (cause : Closure) (h : OpenHit) (s : State) :
    (s.closing ch cause h).dets[ch] = s.dets[ch].closedBy cause s.acq := by
  unfold State.closing
  rw [continuousRun_det, handOn_afterClosure_det]
  rfl

theorem closing_routine (ch : Channel) (cause : Closure) (h : OpenHit) (s : State) : Routine s (s.closing ch cause h) :=
  ((routine_modDet fun _ => afterClosure_allowed cause s.acq _).trans (handOn_routine _ _)).trans (continuousRun_routine ch cause _)

theorem closeHit_eq {ch : Channel} {h : OpenHit} {s : State} (isOpen : s.dets[ch].machine = .inHit h) (cause : Closure) :
    closeHit ch s.tt cause s = if cause.rearms s.acq then s.closing ch cause h else applyWaiting ch (s.closing ch cause h) := by
  unfold closeHit
  rw [isOpen]
  rfl

/-- R57, R58: a BLOCKED detector applies its waiting entry, and its lane follows. -/
theorem applyWaiting_blocked {ch : Channel} {e : ChannelEntry} {s : State} (waits : s.dets[ch].waiting = some e)
    (blocked : s.dets[ch].machine = .blocked) :
    applyWaiting ch s =
      { s with
        dets := upd s.dets ch (Detector.given e)
        lanes := upd s.lanes ch fun l =>
          if e.enabled then if s.synth = .locked ∧ s.acq ≠ .off ∧ l.state = .off then l.toSyncing else l else l.toOff } := by
  have dets : (upd s.dets ch fun d => if e.enabled then d.withEntry e else (d.withEntry e).block) = upd s.dets ch (Detector.given e) := by
    refine upd_congr s.dets ch ?_
    have stays : (s.dets[ch].withEntry e).block = s.dets[ch].withEntry e := by
      unfold Detector.block
      rw [show (s.dets[ch].withEntry e).machine = .blocked from blocked]
      exact congrArg (fun m => ({ s.dets[ch].withEntry e with machine := m } : Detector)) blocked.symm
    simp only [stays, ite_self]
    rfl
  have lanes : upd s.lanes ch (Lane.follow e.enabled s.acq s.ticking) = upd s.lanes ch fun l =>
      if e.enabled then if s.synth = .locked ∧ s.acq ≠ .off ∧ l.state = .off then l.toSyncing else l else l.toOff := by
    refine upd_congr s.lanes ch ?_
    simp only [Lane.follow, State.ticking, Bool.and_eq_true, beq_iff_eq, bne_iff_ne, and_assoc]
  unfold applyWaiting
  rw [waits]
  simp only [applyEntry_eq, dets, lanes]
  rfl

theorem applyWaiting_none {ch : Channel} {s : State} (none : s.dets[ch].waiting = none) : applyWaiting ch s = s := by
  unfold applyWaiting
  rw [none]

/-- R48 to R52: a closure that no waiting entry follows. -/
theorem closeHit_settled {ch : Channel} {h : OpenHit} {s : State} {cause : Closure} (isOpen : s.dets[ch].machine = .inHit h)
    (settled : cause.rearms s.acq = true ∨ s.dets[ch].waiting = none) : closeHit ch s.tt cause s = s.closing ch cause h := by
  rw [closeHit_eq isOpen]
  split
  · rfl
  · next stays => exact applyWaiting_none (by rw [closing_det]; exact settled.resolve_left stays)

/-- R53, R57: a closure that ends in BLOCKED applies the waiting entry. -/
theorem closeHit_applies {ch : Channel} {h : OpenHit} {s : State} {cause : Closure} {e : ChannelEntry}
    (isOpen : s.dets[ch].machine = .inHit h) (blocks : cause.rearms s.acq = false) (waits : s.dets[ch].waiting = some e) :
    closeHit ch s.tt cause s =
      { s.closing ch cause h with
        dets := upd (s.closing ch cause h).dets ch (Detector.given e)
        lanes := upd (s.closing ch cause h).lanes ch fun l =>
          if e.enabled then if s.synth = .locked ∧ s.acq ≠ .off ∧ l.state = .off then l.toSyncing else l else l.toOff } := by
  have kept := closing_routine ch cause h s
  have det := closing_det ch cause h s
  rw [closeHit_eq isOpen, if_neg (by rw [blocks]; exact Bool.false_ne_true)]
  generalize s.closing ch cause h = u at kept det ⊢
  rw [← kept.synth, ← kept.acq]
  exact applyWaiting_blocked (by rw [det]; exact waits)
    (by rw [det]; simp only [Detector.closedBy, blocks, Bool.false_eq_true, if_false])

/-! ## A sample in IN_HIT -/

/-- R137: the store after the segment of an open hit has taken a sample. -/
def WaveStore.filled (ch : Channel) (id : Counter) (smp : Sample) (w : WaveStore) : WaveStore :=
  match w.find ch id with
  | none => w
  | some i =>
    { w with segments := upd w.segments i fun o => o.map fun g =>
      if g.state ≠ .filling then g
      else if g.samples.length < g.capacity then { g with samples := g.samples ++ [smp] } else { g with cut := true } }

theorem segmentFill_eq (ch : Channel) (id : Counter) (smp : Sample) (s : State) :
    segmentFill ch id smp s = { s with wave := s.wave.filled ch id smp } := by
  unfold WaveStore.filled
  cases found : s.wave.find ch id with
  | none => exact segmentFill_none found
  | some i =>
    cases held : s.wave.segments[i] with
    | none =>
      simp only [segmentFill, found, held]
      rw [upd_same_value s.wave.segments i (by rw [held]; rfl)]
    | some g =>
      rw [segmentFill_some found held]
      split
      · next filling =>
        refine congrArg (fun segments => ({ s with wave := { s.wave with segments := segments } } : State)) (upd_congr _ i ?_)
        rw [held]
        rw [Option.map_some, if_neg (not_not.mpr filling)]
        rfl
      · next other =>
        simp only [ne_eq]
        rw [upd_same_value s.wave.segments i (by rw [held, Option.map_some, if_pos other])]

/-- R46, R137: an open hit and its segment after a sample. -/
def State.sampled (ch : Channel) (smp : Sample) (h : OpenHit) (s : State) : State :=
  { s with
    wave := s.wave.filled ch h.hitId smp
    dets := upd s.dets ch fun d => { d with machine := .inHit h } }

theorem takeSample_open {ch : Channel} {smp : Sample} {h : OpenHit} {s : State} (isOpen : s.dets[ch].machine = .inHit h) :
    takeSample ch smp s =
      let d := s.dets[ch]
      let h := h.update (decide (d.thrCode ≤ magnitude smp)) d.active.pst s.tt smp
      match h.closure d.active s.tt with
      | some cause => { state := closeHit ch s.tt cause (s.sampled ch smp h), opened := false, closed := true }
      | none => { state := s.sampled ch smp h, opened := false, closed := false } := by
  have stays : s.modDet ch (Detector.unblock s.acq) = s := by
    refine congrArg (fun dets => ({ s with dets := dets } : State)) (upd_same_value s.dets ch ?_)
    unfold Detector.unblock
    rw [isOpen]
  have taken (k : OpenHit) : segmentFill ch k.hitId smp (s.modOpen ch fun _ => k) = s.sampled ch smp k := by
    rw [segmentFill_eq]
    refine congrArg (fun dets => ({ s with wave := _, dets := dets } : State)) (upd_congr s.dets ch ?_)
    exact Detector.modOpen_open isOpen _
  unfold takeSample
  simp only [stays, isOpen]
  unfold takeInHit
  simp only [taken]
  rfl

theorem OpenHit.closure_normal {h : OpenHit} {e : ChannelEntry} {tick : TestTime} (normal : e.hct ≤ ticksBetween tick h.lastActivity) :
    h.closure e tick = some .normal := if_pos normal

theorem OpenHit.closure_truncated {h : OpenHit} {e : ChannelEntry} {tick : TestTime}
    (normal : ¬ e.hct ≤ ticksBetween tick h.lastActivity) (truncated : e.maxDuration ≤ ticksBetween tick h.arrival) :
    h.closure e tick = some .truncated := (if_neg normal).trans (if_pos truncated)

theorem OpenHit.closure_none {h : OpenHit} {e : ChannelEntry} {tick : TestTime}
    (normal : ¬ e.hct ≤ ticksBetween tick h.lastActivity) (truncated : ¬ e.maxDuration ≤ ticksBetween tick h.arrival) :
    h.closure e tick = none := (if_neg normal).trans (if_neg truncated)

theorem sampled_det (ch : Channel) (smp : Sample) (h : OpenHit) (s : State) :
    (s.sampled ch smp h).dets[ch] = { s.dets[ch] with machine := .inHit h } := by
  simp only [State.sampled, upd_same]

end Sys2Proof.Machine
end

section
/-! R48 to R57: a sample taken in IN_HIT closes, truncates or continues the hit. -/

namespace Sys2Proof.Machine

theorem Closure.rearms_iff {cause : Closure} (judged : cause.judged = true) (a : Acq) : cause.rearms a = true ↔ a = .armed := by
  cases cause with
  | normal | truncated => exact beq_iff_eq
  | laneFault | aborted | clockFault => cases judged

/-- R48, R56: the state in which a closed hit is handed on after the sample that closed it. -/
def State.letGo (ch : Channel) (smp : Sample) (id : Counter) (s : State) : State :=
  { s with
    wave := s.wave.filled ch id smp
    dets := upd s.dets ch fun d => { d with machine := if s.acq = .armed then .rearmHold else .blocked, rearm := d.active.rht } }

theorem sampled_closing {ch : Channel} {smp : Sample} {h : OpenHit} {cause : Closure} {s : State} (judged : cause.judged = true) :
    (s.sampled ch smp h).closing ch cause h =
      continuousRun ch cause (handOn (closedHitOf ch s.dets[ch].active s.tt cause h) (s.letGo ch smp h.hitId)) := by
  have left : (s.sampled ch smp h).modDet ch (Detector.afterClosure (cause.rearms s.acq)) = s.letGo ch smp h.hitId := by
    unfold State.sampled State.modDet State.letGo
    simp only [upd_upd, Detector.afterClosure, Closure.rearms_iff judged]
  unfold State.closing
  rw [sampled_det]
  exact congrArg (fun u => continuousRun ch cause (handOn (closedHitOf ch s.dets[ch].active s.tt cause h) u)) left

theorem letGo_det (ch : Channel) (smp : Sample) (id : Counter) (s : State) : (s.letGo ch smp id).dets[ch] =
    { s.dets[ch] with machine := if s.acq = .armed then .rearmHold else .blocked, rearm := s.dets[ch].active.rht } := by
  simp only [State.letGo, upd_same]

theorem handOn_letGo_contRun (c : ClosedHit) (ch : Channel) (smp : Sample) (id : Counter) (s : State) :
    (handOn c (s.letGo ch smp id)).dets[ch].contRun = s.dets[ch].contRun := by
  have closed (k : OpenHit) : (s.letGo ch smp id).dets[ch].machine ≠ .inHit k := by
    rw [letGo_det]
    simp only
    split <;> exact DetState.noConfusion
  rw [(handOn_marks c _).det closed, letGo_det]

theorem handOn_letGo_tables (c : ClosedHit) (ch : Channel) (smp : Sample) (id : Counter) (s : State) :
    (handOn c (s.letGo ch smp id)).tables = s.tables := congrArg Fixed.tables (handOn_routine c (s.letGo ch smp id)).fixed

/-- R48, R52, R57: the detector of a closed hit. -/
theorem closeHit_det {ch : Channel} {h : OpenHit} {s : State} (isOpen : s.dets[ch].machine = .inHit h) (cause : Closure) :
    ((closeHit ch s.tt cause s).dets[ch] = s.dets[ch].closedBy cause s.acq
        ∧ (cause.rearms s.acq = true ∨ s.dets[ch].waiting = none))
      ∨ ∃ e, cause.rearms s.acq = false ∧ (closeHit ch s.tt cause s).dets[ch] = Detector.given e (s.dets[ch].closedBy cause s.acq) := by
  cases rearms : cause.rearms s.acq with
  | true => exact .inl ⟨by rw [closeHit_settled isOpen (.inl rearms), closing_det], .inl rfl⟩
  | false =>
    cases waits : s.dets[ch].waiting with
    | none => exact .inl ⟨by rw [closeHit_settled isOpen (.inr waits), closing_det], .inr rfl⟩
    | some e =>
      refine .inr ⟨e, rfl, ?_⟩
      rw [closeHit_applies isOpen rearms waits]
      simp only [upd_same, closing_det]

/-- What a closure by a sample leaves of its detector. -/
structure Detector.Released (a : Acq) (cause : Closure) (d d' : Detector) : Prop where
  machine : d'.machine = if a = .armed then .rearmHold else .blocked
  rearm : d'.rearm = d.active.rht
  opened : d'.hitsOpened = d.hitsOpened
  armed : a = .armed → d'.active = d.active ∧ d'.waiting = d.waiting
  applied : a ≠ .armed → d'.waiting = none
  run : d'.contRun = cause.run d.contRun

theorem closeHit_released {ch : Channel} {smp : Sample} {h : OpenHit} {cause : Closure} {s : State} (judged : cause.judged = true) :
    Detector.Released s.acq cause s.dets[ch] (closeHit ch s.tt cause (s.sampled ch smp h)).dets[ch] := by
  have rearms := Closure.rearms_iff judged s.acq
  have isOpen : (s.sampled ch smp h).dets[ch].machine = .inHit h := by rw [sampled_det]
  have result := closeHit_det isOpen cause
  rw [sampled_det] at result
  rcases result with ⟨det, settled⟩ | ⟨e, blocks, det⟩
  · rw [show s.tt = (s.sampled ch smp h).tt from rfl, det]
    refine ⟨?_, rfl, rfl, fun _ => ⟨rfl, rfl⟩, fun other => settled.resolve_left (mt rearms.mp other), rfl⟩
    simp only [Detector.closedBy, State.sampled, rearms]
  · rw [show s.tt = (s.sampled ch smp h).tt from rfl, det]
    have other : s.acq ≠ .armed := fun armed => Bool.false_ne_true (blocks.symm.trans (rearms.mpr armed))
    refine ⟨?_, rfl, rfl, fun armed => absurd armed other, fun _ => rfl, rfl⟩
    simp only [Detector.given, Detector.closedBy, State.sampled, rearms]

/-- Settles O53: the sample's two tests in their order; each closure is the hand-on, the run and the waiting entry. -/
theorem closureFollowsItsTests : Obligations.ClosureFollowsItsTests := by
  intro s ch smp h isOpen d h' normal truncated r wave handed withRun ends
  have sampledOpen : (s.sampled ch smp h').dets[ch].machine = .inHit h' := by rw [sampled_det]
  have closes {cause : Closure} (closure : h'.closure d.active s.tt = some cause) :
      r = { state := closeHit ch s.tt cause (s.sampled ch smp h'), opened := false, closed := true } := by
    refine (takeSample_open isOpen).trans ?_
    simp only [show ((h.update (decide (s.dets[ch].thrCode ≤ magnitude smp)) s.dets[ch].active.pst s.tt smp).closure s.dets[ch].active s.tt)
      = some cause from closure]
    rfl
  have goesOn (closure : h'.closure d.active s.tt = none) : r = { state := s.sampled ch smp h', opened := false, closed := false } := by
    refine (takeSample_open isOpen).trans ?_
    simp only [show ((h.update (decide (s.dets[ch].thrCode ≤ magnitude smp)) s.dets[ch].active.pst s.tt smp).closure s.dets[ch].active s.tt)
      = none from closure]
    rfl
  have ending {cause : Closure} (judged : cause.judged = true) (closure : h'.closure d.active s.tt = some cause) :
      ends (continuousRun ch cause (handed cause)) := by
    have out : (s.sampled ch smp h').closing ch cause h' = continuousRun ch cause (handed cause) := sampled_closing judged
    have rearms := Closure.rearms_iff judged s.acq
    have waiting : (s.sampled ch smp h').dets[ch].waiting = d.waiting := by rw [sampled_det]
    refine ⟨fun settled => ?_, fun e other waits => ?_⟩
    · rw [closes closure, ← out]
      exact closeHit_settled sampledOpen (settled.imp rearms.mpr waiting.trans)
    · rw [closes closure, ← out]
      exact closeHit_applies sampledOpen (Bool.eq_false_iff.mpr (mt rearms.mp other)) (waiting.trans waits)
  have released {cause : Closure} (judged : cause.judged = true) (closure : h'.closure d.active s.tt = some cause) :
      Detector.Released s.acq cause d r.state.dets[ch] := by
    rw [closes closure]
    exact closeHit_released judged
  have byNormal : normal → h'.closure d.active s.tt = some .normal := OpenHit.closure_normal
  have byTruncation : ¬ normal → truncated → h'.closure d.active s.tt = some .truncated := OpenHit.closure_truncated
  have latched (long : ¬ normal) (tooLong : truncated) (limit : s.tables.setup.continuousRun ≤ min (d.contRun + 1) 65535) :
      continuousRun ch .truncated (handed .truncated)
        = setFactor (.continuous ch) ch.val none (withRun (min (d.contRun + 1) 65535) (handed .truncated)) := by
    have run : (handed .truncated).dets[ch].contRun = d.contRun := handOn_letGo_contRun _ ch smp h'.hitId s
    have tables : (handed .truncated).tables = s.tables := handOn_letGo_tables _ ch smp h'.hitId s
    rw [continuousRun_eq, if_pos ⟨rfl, by rw [tables, run]; exact limit⟩, run]
    rfl
  refine ⟨?_, fun long short => ?_, fun idle => ending rfl (byNormal idle), fun long tooLong => ?_, fun closed => ?_, fun idle => ?_,
    fun long tooLong => ⟨(released rfl (byTruncation long tooLong)).run, fun limit => ?_⟩⟩
  · cases closure : h'.closure d.active s.tt with
    | none => rw [goesOn closure]
    | some cause => rw [closes closure]
  · rw [goesOn (OpenHit.closure_none long short)]
    exact ⟨rfl, rfl⟩
  · intro run counted
    refine ⟨fun short => ?_, fun limit => ?_⟩
    · have plain : continuousRun ch .truncated (handed .truncated) = counted := by
        have before : (handed .truncated).dets[ch].contRun = d.contRun := handOn_letGo_contRun _ ch smp h'.hitId s
        have tables : (handed .truncated).tables = s.tables := handOn_letGo_tables _ ch smp h'.hitId s
        rw [continuousRun_eq, if_neg (by rw [tables, before]; exact fun ⟨_, limit⟩ => Nat.not_le.mpr short limit), before]
        rfl
      exact plain ▸ ending rfl (byTruncation long tooLong)
    · exact latched long tooLong limit ▸ ending rfl (byTruncation long tooLong)
  · have any : ∃ cause : Closure, cause.judged = true ∧ h'.closure d.active s.tt = some cause := by
      by_cases idle : normal
      · exact ⟨.normal, rfl, byNormal idle⟩
      · exact ⟨.truncated, rfl, byTruncation idle (closed.resolve_left idle)⟩
    obtain ⟨cause, judged, closure⟩ := any
    have leaves := released judged closure
    exact ⟨by rw [closes closure], leaves.machine, leaves.rearm, leaves.opened, leaves.armed, leaves.applied⟩
  · exact (released rfl (byNormal idle)).run
  · have set : (continuousRun ch .truncated (handed .truncated)).cond.factors.get (.continuous ch) = true := by
      rw [latched long tooLong limit, setFactor_get, BEq.rfl, Bool.or_true]
    have outcome := ending rfl (byTruncation long tooLong)
    by_cases armed : s.acq = .armed ∨ d.waiting = none
    · rw [outcome.1 armed]
      exact set
    · obtain ⟨other, waits⟩ := not_or.mp armed
      obtain ⟨e, waits⟩ := Option.ne_none_iff_exists'.mp waits
      rw [outcome.2 e other waits]
      exact set

end Sys2Proof.Machine
end

section
/-! A sample that meets no open hit: BLOCKED, REARM_HOLD, and the opening with its capture (sections 3.3, 5.2, 8.3, 8.4). -/

namespace Sys2Proof.Machine

/-! ## Writes that an evaluation of the shed level may pass by -/

/-- A state with other conditions and record queues. -/
def State.withBook (c : Conditions) (q : RecordQueues) (s : State) : State := { s with cond := c, rq := q }

/-- An operation that neither reads nor writes conditions and record queues, and leaves Test Time. -/
structure BookFree (g : State → State) : Prop where
  cond : ∀ s, (g s).cond = s.cond
  rq : ∀ s, (g s).rq = s.rq
  tt : ∀ s, (g s).tt = s.tt
  withBook : ∀ c q s, g (s.withBook c q) = (g s).withBook c q

theorem setFactor_bookFree {g : State → State} (free : BookFree g) (f : Factor) (index : Nat) (reached : Option Nat) (s : State) :
    setFactor f index reached (g s) = g (setFactor f index reached s) := by
  cases set : s.cond.factors.get f with
  | true => rw [setFactor_of_set set, setFactor_of_set (by rw [free.cond]; exact set)]
  | false =>
    have edge : (g s).noticesEdge f = s.noticesEdge f := by unfold State.noticesEdge; rw [free.cond, free.rq]
    have setting (fs : FactorBits) (ns : List Notice) : g (s.withSetting fs ns) = (g s).withSetting fs ns := by
      refine (free.withBook { s.cond with factors := fs } { s.rq with notices := ns } s).trans ?_
      rw [← free.cond s, ← free.rq s]
      rfl
    rw [setFactor_of_clear set, setFactor_of_clear (by rw [free.cond]; exact set), edge, free.cond, free.rq, free.tt, ← setting, ← setting]
    split <;> rfl

theorem evalShed_bookFree {g : State → State} (free : BookFree g) {s : State} (blocks : (g s).wave.freeBlocks = s.wave.freeBlocks) :
    evalShed (g s) = g (evalShed s) := by
  have step : shedStep (g s).rq.shed (g s).rq.hits.length (g s).wave.freeBlocks
      = shedStep s.rq.shed s.rq.hits.length s.wave.freeBlocks := by rw [free.rq, blocks]
  by_cases same : shedStep s.rq.shed s.rq.hits.length s.wave.freeBlocks = s.rq.shed
  · rw [evalShed_stays same, evalShed_stays (step.trans (same.trans (by rw [free.rq])))]
  · rw [evalShed_moves rfl same, evalShed_moves step (by rw [free.rq]; exact same), ← setFactor_bookFree free]
    congr 1
    refine .trans ?_ (free.withBook s.cond { s.rq with shed := _ } s).symm
    rw [← free.rq s, ← free.cond s]
    rfl

theorem freeBlocks_put {w : WaveStore} {i : Fin 64} {g g' : Segment} (held : w.segments[i] = some g) (blocks : g'.blocks = g.blocks) :
    (w.put i (some g')).freeBlocks = w.freeBlocks := by
  have sizes : (w.put i (some g')).segments.toList.map (fun o => (o.map fun g => g.blocks.length).getD 0)
      = w.segments.toList.map fun o => (o.map fun g => g.blocks.length).getD 0 := by
    have kept : ((some g').map fun g => g.blocks.length).getD 0
        = (w.segments.toList.map fun o => (o.map fun g => g.blocks.length).getD 0)[i.val]'(by simp) := by
      rw [List.getElem_map, Vector.getElem_toList, show w.segments[i.val] = some g from held, Option.map_some, Option.map_some, blocks]
    unfold WaveStore.put upd
    rw [Vector.toList_set, List.map_set, kept, List.set_getElem_self]
  rw [freeBlocks_eq, freeBlocks_eq, sizes]

/-! ## The lowest descriptor -/

theorem find?_descriptors_eq_some {p : Fin 64 → Bool} {i : Fin 64} :
    descriptors.find? p = some i ↔ p i = true ∧ ∀ j < i, p j = false := by
  unfold descriptors
  rw [← Fin.find?_eq_find?_finRange, Fin.find?_eq_some_iff]

theorem freeDescriptor_eq_some {w : WaveStore} {i : Fin 64} :
    w.freeDescriptor = some i ↔ w.segments[i] = none ∧ ∀ j < i, w.segments[j] ≠ none := by
  unfold WaveStore.freeDescriptor
  rw [find?_descriptors_eq_some, Option.isNone_iff_eq_none]
  refine and_congr_right fun _ => forall₂_congr fun j _ => ?_
  rw [ne_eq, ← Option.isNone_iff_eq_none, Bool.not_eq_true]

theorem find_none_iff {w : WaveStore} {ch : Channel} {id : Counter} :
    w.find ch id = none ↔ ∀ (i : Fin 64) (g : Segment), w.segments[i] = some g → g.holds ch id = false := by
  unfold WaveStore.find descriptors
  rw [List.find?_eq_none]
  refine ⟨fun none i g held => ?_, fun none i _ => ?_⟩
  · have := none i (List.mem_finRange i)
    rw [held] at this
    exact Bool.eq_false_iff.mpr this
  · cases held : w.segments[i] with
    | none => exact Bool.false_ne_true
    | some g => exact Bool.eq_false_iff.mp (none i g held)

/-- The segment of a hit that had none is the one that is set up for it. -/
theorem find_put {w : WaveStore} {ch : Channel} {id : Counter} {i : Fin 64} {g : Segment} (none : w.find ch id = .none)
    (holds : g.holds ch id = true) : (w.put i (some g)).find ch id = some i := by
  have others := find_none_iff.mp none
  refine find?_descriptors_eq_some.mpr ⟨?_, fun j before => ?_⟩
  · rw [show (w.put i (some g)).segments[i] = some g from upd_same _ _ _]
    exact holds
  · rw [show (w.put i (some g)).segments[j] = w.segments[j] from upd_other _ _ _ _ (ne_of_gt before)]
    cases held : w.segments[j] with
    | none => rfl
    | some k => exact others j k held

/-! ## The capture decision -/

theorem decideCapture_off {ch : Channel} {id : Counter} {arrival : TestTime} {s : State} (off : s.dets[ch].active.wfMode = .off) :
    decideCapture ch id arrival s = s := if_pos off

theorem decideCapture_skips {ch : Channel} {id : Counter} {arrival : TestTime} {s : State} (on : s.dets[ch].active.wfMode ≠ .off)
    (cannot : s.rq.shed ≠ 0 ∨ (∀ i : Fin 64, s.wave.segments[i] ≠ none) ∨ s.wave.freeBlocks < blocksFor s.dets[ch].active.wfMax) :
    decideCapture ch id arrival s =
      { s with
        wave := { s.wave with skipped := s.wave.skipped + 1 }
        dets := upd s.dets ch (Detector.modOpen fun h => { h with wfSkipped := true }) } := by
  unfold decideCapture
  simp only [if_neg on]
  split
  · next i free =>
    refine if_neg fun ⟨level, room⟩ => ?_
    rcases cannot with shed | none | few
    · exact shed level
    · exact none i (freeDescriptor_free free)
    · exact Nat.not_le.mpr few room
  · rfl

theorem decideCapture_captures {ch : Channel} {id : Counter} {arrival : TestTime} {s : State} {i : Fin 64}
    (on : s.dets[ch].active.wfMode ≠ .off) (level : s.rq.shed = 0) (room : blocksFor s.dets[ch].active.wfMax ≤ s.wave.freeBlocks)
    (free : s.wave.segments[i] = none) (lowest : ∀ j : Fin 64, j < i → s.wave.segments[j] ≠ none) :
    decideCapture ch id arrival s =
      evalShed (s.modWave fun w =>
        { w.put i (some (newSegment w ch id arrival s.dets[ch].active)) with nextSeg := w.nextSeg + 1, captured := w.captured + 1 }) := by
  have found : s.wave.freeDescriptor = some i := freeDescriptor_eq_some.mpr ⟨free, lowest⟩
  unfold decideCapture
  simp only [if_neg on, found]
  exact if_pos ⟨level, room⟩

/-! ## An opening -/

/-- R43, R44: a hit begun, before its capture is decided. -/
def State.begun (ch : Channel) (smp : Sample) (id : Counter) (s : State) : State :=
  { s with
    nextHit := advanceHitId id
    dets := upd s.dets ch fun d => { d with machine := .inHit (openingHit s ch smp id), hitsOpened := d.hitsOpened + 1 } }

/-- R85, R127: an opening counted in its channel's figures, and the guard counts of a GUARD opening raised. -/
def State.openingCounted (ch : Channel) (e : ChannelEntry) (s : State) : State :=
  { s with
    timer := { s.timer with figures := upd s.timer.figures ch fun g => { g with opened := g.opened + 1 } }
    guard := if e.role = .guard then
        tabulate fun j => if e.guardMask.getLsbD j.val then max s.guard[j] (e.guardWindow + 1) else s.guard[j]
      else s.guard }

theorem openingCounted_bookFree (ch : Channel) (e : ChannelEntry) : BookFree (State.openingCounted ch e) :=
  ⟨fun _ => rfl, fun _ => rfl, fun _ => rfl, fun _ _ _ => rfl⟩

theorem begun_det (ch : Channel) (smp : Sample) (id : Counter) (s : State) : (s.begun ch smp id).dets[ch] =
    { s.dets[ch] with machine := .inHit (openingHit s ch smp id), hitsOpened := s.dets[ch].hitsOpened + 1 } := by
  simp only [State.begun, upd_same]

theorem openHit_eq (ch : Channel) (smp : Sample) (id : Counter) (s : State) :
    openHit ch smp id s =
      let t := (segmentFill ch id smp (decideCapture ch id s.tt (s.begun ch smp id))).modFigures ch fun g =>
        { g with opened := g.opened + 1 }
      if s.dets[ch].active.role = .guard then raiseGuards t.dets[ch].active t else t := by
  unfold openHit
  dsimp only
  split
  · next guard => exact (if_pos guard).symm
  · next data => exact (if_neg fun guard => Role.noConfusion (guard.symm.trans data)).symm

theorem openHit_of {ch : Channel} {smp : Sample} {id : Counter} {s t u : State}
    (decided : decideCapture ch id s.tt (s.begun ch smp id) = t) (filled : segmentFill ch id smp t = u)
    (active : u.dets[ch].active = s.dets[ch].active) :
    openHit ch smp id s = u.openingCounted ch s.dets[ch].active := by
  rw [openHit_eq, decided, filled]
  simp only [State.openingCounted, State.modFigures_dets, active]
  split
  · rfl
  · rfl

theorem openHit_off {ch : Channel} {smp : Sample} {id : Counter} {s : State} (off : s.dets[ch].active.wfMode = .off)
    (none : s.wave.find ch id = .none) : openHit ch smp id s = (s.begun ch smp id).openingCounted ch s.dets[ch].active :=
  openHit_of (decideCapture_off (by rw [begun_det]; exact off)) (segmentFill_none (s := s.begun ch smp id) none) (by rw [begun_det])

theorem openHit_skips {ch : Channel} {smp : Sample} {id : Counter} {s : State} (on : s.dets[ch].active.wfMode ≠ .off)
    (cannot : s.rq.shed ≠ 0 ∨ (∀ i : Fin 64, s.wave.segments[i] ≠ none) ∨ s.wave.freeBlocks < blocksFor s.dets[ch].active.wfMax)
    (none : s.wave.find ch id = .none) :
    openHit ch smp id s =
      ({ s.begun ch smp id with
        wave := { s.wave with skipped := s.wave.skipped + 1 }
        dets := upd s.dets ch fun d => { d with
          machine := .inHit { openingHit s ch smp id with wfSkipped := true }
          hitsOpened := d.hitsOpened + 1 } } : State).openingCounted ch s.dets[ch].active := by
  refine openHit_of (.trans (decideCapture_skips (by rw [begun_det]; exact on) ?_) ?_) (segmentFill_none none) ?_
  · rw [begun_det]
    exact cannot
  · simp only [State.begun, upd_upd, Detector.modOpen]
  · simp only [upd_same]

theorem openHit_captures {ch : Channel} {smp : Sample} {id : Counter} {s : State} {i : Fin 64} (on : s.dets[ch].active.wfMode ≠ .off)
    (level : s.rq.shed = 0) (room : blocksFor s.dets[ch].active.wfMax ≤ s.wave.freeBlocks)
    (free : s.wave.segments[i] = none) (lowest : ∀ j : Fin 64, j < i → s.wave.segments[j] ≠ none)
    (none : s.wave.find ch id = .none) :
    openHit ch smp id s =
      evalShed (({ s.begun ch smp id with wave :=
        { s.wave.put i (some ((newSegment s.wave ch id s.tt s.dets[ch].active).append smp)) with
          nextSeg := s.wave.nextSeg + 1, captured := s.wave.captured + 1 } } : State).openingCounted ch s.dets[ch].active) := by
  generalize made : newSegment s.wave ch id s.tt s.dets[ch].active = seg
  have holds : seg.holds ch id = true := by subst made; simp [Segment.holds, newSegment]
  have filling : seg.state = .filling := by subst made; rfl
  have appended : (seg.append smp).blocks = seg.blocks := by unfold Segment.append; split <;> rfl
  have set : ({ s.wave.put i (some seg) with nextSeg := s.wave.nextSeg + 1, captured := s.wave.captured + 1 } : WaveStore).segments[i]
      = some seg := upd_same _ _ _
  have found : ({ s.wave.put i (some seg) with nextSeg := s.wave.nextSeg + 1, captured := s.wave.captured + 1 } : WaveStore).find ch id
      = some i := find_put none holds
  generalize stored : ({ s.wave.put i (some seg) with nextSeg := s.wave.nextSeg + 1, captured := s.wave.captured + 1 } : WaveStore) = w
    at set found
  have decided : decideCapture ch id s.tt (s.begun ch smp id) = evalShed { s.begun ch smp id with wave := w } := by
    refine (decideCapture_captures (ch := ch) (s := s.begun ch smp id) (by rw [begun_det]; exact on) level
      (by rw [begun_det]; exact room) free lowest).trans ?_
    rw [begun_det, ← stored, ← made]
    rfl
  have fill : BookFree fun u => u.modWave fun w => w.put i (some (seg.append smp)) :=
    ⟨fun _ => rfl, fun _ => rfl, fun _ => rfl, fun _ _ _ => rfl⟩
  have filled : segmentFill ch id smp (evalShed { s.begun ch smp id with wave := w })
      = evalShed { s.begun ch smp id with wave := w.put i (some (seg.append smp)) } := by
    rw [segmentFill_some (i := i) (g := seg) (by rw [evalShed_wave]; exact found) (by rw [evalShed_wave]; exact set), if_pos filling]
    exact (evalShed_bookFree fill (s := { s.begun ch smp id with wave := w }) (freeBlocks_put set appended)).symm
  refine (openHit_of decided filled ?_).trans ?_
  · rw [(evalShed_booked _).dets, begun_det]
  · refine (evalShed_bookFree (openingCounted_bookFree ch s.dets[ch].active) (s := { s.begun ch smp id with wave := _ }) rfl).symm.trans ?_
    rw [← stored]
    simp only [WaveStore.put, upd_upd]

/-! ## A sample that meets no open hit -/

theorem takeSample_eq {ch : Channel} {s u : State} (smp : Sample) (unblocked : s.modDet ch (Detector.unblock s.acq) = u) :
    takeSample ch smp s =
      match u.dets[ch].machine with
      | .idle => takeIdle ch smp u
      | .inHit h => takeInHit ch smp h u
      | .rearmHold | .blocked => { state := u, opened := false, closed := false } := by
  subst unblocked
  rfl

theorem modDet_same {ch : Channel} {f : Detector → Detector} {s : State} (same : f s.dets[ch] = s.dets[ch]) : s.modDet ch f = s :=
  congrArg (fun dets => ({ s with dets := dets } : State)) (upd_same_value s.dets ch same)

theorem takeSample_idle {ch : Channel} {s : State} (smp : Sample) (idle : s.dets[ch].machine = .idle) :
    takeSample ch smp s = takeIdle ch smp s := by
  rw [takeSample_eq smp (modDet_same (by unfold Detector.unblock; rw [idle])), idle]

theorem takeSample_untested {ch : Channel} {s u : State} (smp : Sample) (unblocked : s.modDet ch (Detector.unblock s.acq) = u)
    (untested : u.dets[ch].machine = .rearmHold ∨ u.dets[ch].machine = .blocked) :
    takeSample ch smp s = { state := u, opened := false, closed := false } := by
  rw [takeSample_eq smp unblocked]
  rcases untested with hold | blocked
  · rw [hold]
  · rw [blocked]

/-- R53: in ARMED a BLOCKED detector leaves BLOCKED. -/
theorem unblock_armed {ch : Channel} {s : State} (blocked : s.dets[ch].machine = .blocked) (armed : s.acq = .armed) :
    s.modDet ch (Detector.unblock s.acq) =
      { s with dets := upd s.dets ch fun d => { d with machine := if s.dets[ch].rearm = 0 then .idle else .rearmHold } } := by
  refine congrArg (fun dets => ({ s with dets := dets } : State)) (upd_congr s.dets ch ?_)
  unfold Detector.unblock
  rw [blocked]
  exact if_pos armed

theorem unblock_elsewhere {ch : Channel} {s : State} (blocked : s.dets[ch].machine = .blocked) (elsewhere : s.acq ≠ .armed) :
    s.modDet ch (Detector.unblock s.acq) = s := by
  refine modDet_same ?_
  unfold Detector.unblock
  rw [blocked]
  exact if_neg elsewhere

theorem takeIdle_opens {ch : Channel} {smp : Sample} {id : Counter} {s : State} (active : s.dets[ch].thrCode ≤ magnitude smp)
    (next : s.nextHit = some id) : takeIdle ch smp s = { state := openHit ch smp id s, opened := true, closed := false } := by
  unfold takeIdle
  rw [if_pos (show s.dets[ch].activeAt smp = true from decide_eq_true active), next]

theorem takeIdle_passes {ch : Channel} {smp : Sample} {s : State} (passes : magnitude smp < s.dets[ch].thrCode ∨ s.nextHit = none) :
    takeIdle ch smp s = { state := s, opened := false, closed := false } := by
  unfold takeIdle
  rcases passes with below | exhausted
  · exact if_neg (by simpa [Detector.activeAt] using below)
  · rw [exhausted]
    split <;> rfl

/-- Settles O52: the detector's three states without a hit, and the three outcomes of the capture decision at an opening. -/
theorem openingSetsTheHit : Obligations.OpeningSetsTheHit := by
  refine ⟨?_, ?_⟩
  · intro s ch smp d became untested
    have tested (m : DetState) : (became m).dets[ch].machine = m := congrArg Detector.machine (upd_same s.dets ch _)
    refine ⟨fun blocked armed ended => ?_, fun blocked armed remains => ?_, fun blocked elsewhere => ?_, fun hold => ?_⟩
    · have leaves : s.modDet ch (Detector.unblock s.acq) = became .idle := by
        rw [unblock_armed blocked armed, if_pos ended]
      rw [takeSample_eq smp leaves, takeSample_idle smp (tested .idle), tested]
    · have leaves : s.modDet ch (Detector.unblock s.acq) = became .rearmHold := by
        rw [unblock_armed blocked armed, if_neg (Nat.ne_of_gt remains)]
      exact takeSample_untested smp leaves (.inl (tested .rearmHold))
    · exact takeSample_untested smp (unblock_elsewhere blocked elsewhere) (.inr blocked)
    · refine takeSample_untested smp (modDet_same ?_) (.inl hold)
      unfold Detector.unblock
      rw [show s.dets[ch].machine = .rearmHold from hold]
  · intro s ch smp idle d
    refine ⟨fun passes => by rw [takeSample_idle smp idle, takeIdle_passes passes], ?_⟩
    intro id active next noSegment e hit opened opens needed
    have begins {t : State} (result : openHit ch smp id s = t) : opens t := by
      show takeSample ch smp s = _
      rw [takeSample_idle smp idle, takeIdle_opens active next, result]
    have hitOf : openingHit s ch smp id = hit false := by
      unfold openingHit
      rw [State.pStale_eq]
    have skippedOf : ({ openingHit s ch smp id with wfSkipped := true } : OpenHit) = hit true := by rw [hitOf]
    have begun (wave : WaveStore) :
        ({ s.begun ch smp id with wave := wave } : State).openingCounted ch s.dets[ch].active = opened false wave := by
      unfold State.begun
      rw [hitOf]
      rfl
    refine ⟨fun off => begins ((openHit_off off noSegment).trans (begun s.wave)), fun on => ⟨fun cannot => begins ?_, ?_⟩⟩
    · rw [openHit_skips on cannot noSegment, skippedOf]
      rfl
    · intro i level room free lowest before hasRoom segment
      refine begins ((openHit_captures on level room free lowest noSegment).trans (congrArg evalShed (.trans ?_ (begun _))))
      have made : (newSegment s.wave ch id s.tt s.dets[ch].active).append smp = segment := by
        by_cases more : hasRoom
        · refine (if_pos more).trans ?_
          simp only [segment, more, not_true_eq_false, decide_false]
          rfl
        · refine (if_neg more).trans ?_
          simp only [segment, more, not_false_eq_true, decide_true]
          rfl
      rw [made]
      rfl

end Sys2Proof.Machine
end

section
/-! R9 to R18: what a receiver makes of a word in each of its states. -/

namespace Sys2Proof.Machine

/-- A receiver's tick with its tick number advanced. -/
def LaneTick.counted (r : LaneTick) : LaneTick := { r with lane := r.lane.countTick }

theorem Lane.tick_eq (l : Lane) (settleMs : Nat) (w : LaneWord) : l.tick settleMs w = (l.beginTick.stateTick settleMs w).counted := rfl

/-- R14 to R17: a tick under the framing and silence checks: the fault that is reached first, or what the state makes of the sample. -/
def Lane.judging (entered : Bool) (takes : Sample → Lane → LaneTick) (w : LaneWord) (l : Lane) : LaneTick :=
  let r := l.judgeWord w
  match r.2.2 with
  | some cause => { LaneTick.faulted cause r.1 with entered := entered }
  | none => takes r.2.1 r.1

/-- R17: a tick that enters FAULTED, counted. -/
def Lane.faultsBy (entered : Bool) (cause : LaneCause) (l : Lane) : LaneTick :=
  { lane := (l.toFaulted cause).countTick, delivered := none, entered := entered, fault := some cause }

/-- R14: a lane after a framing error with this list. -/
def Lane.erred (list : List (BitVec 48)) (l : Lane) : Lane :=
  { l with missingRun := 0, framingErrors := l.framingErrors + 1, framingList := list }

/-- R14, R15: what the two checks make of each word, before what the state does with the sample. -/
structure Lane.Judges (l : Lane) (settleMs : Nat) (entered : Bool) (takes : Sample → Lane → LaneTick) : Prop where
  good : ∀ smp, l.tick settleMs (.wellFormed smp) = takes smp { l with held := smp, missingRun := 0 }
  malformed : (recentErrors l.tickNumber l.framingList).length < 7 →
    l.tick settleMs .malformed = takes l.held (l.erred (recentErrors l.tickNumber l.framingList ++ [l.tickNumber]))
  framing : 7 ≤ (recentErrors l.tickNumber l.framingList).length →
    l.tick settleMs .malformed = (l.erred (recentErrors l.tickNumber l.framingList)).faultsBy entered .framing
  missing : l.missingRun + 1 < 4 → l.tick settleMs .missing = takes l.held { l with missingRun := l.missingRun + 1 }
  silent : 4 ≤ l.missingRun + 1 → l.tick settleMs .missing = Lane.faultsBy entered .silent { l with missingRun := l.missingRun + 1 }

/-- A state whose ticks go through the checks, and whose work on a sample reads no run that they write. -/
theorem Lane.judges_of {l : Lane} {settleMs : Nat} {entered : Bool} {takes taken : Sample → Lane → LaneTick}
    (begins : l.beginTick = l) (tick : ∀ w, l.stateTick settleMs w = l.judging entered takes w)
    (agree : ∀ smp l', l'.fullRun = l.fullRun → l'.cleanRun = l.cleanRun → l'.settleTicks = l.settleTicks →
      (takes smp l').counted = taken smp l') : l.Judges settleMs entered taken := by
  have goes (w : LaneWord) : l.tick settleMs w = (l.judging entered takes w).counted := by rw [Lane.tick_eq, begins, tick]
  refine ⟨fun smp => ?_, fun few => ?_, fun many => ?_, fun short => ?_, fun long => ?_⟩
  · rw [goes]
    exact agree _ _ rfl rfl rfl
  · refine (goes _).trans (.trans ?_ (agree l.held (l.erred (recentErrors l.tickNumber l.framingList ++ [l.tickNumber])) rfl rfl rfl))
    simp only [Lane.judging, Lane.judgeWord, Lane.framingError, if_neg (Nat.not_le.mpr few), Bool.false_eq_true, if_false]
    rfl
  · rw [goes]
    simp only [Lane.judging, Lane.judgeWord, Lane.framingError, if_pos many, if_true]
    rfl
  · refine (goes _).trans (.trans ?_ (agree l.held { l with missingRun := l.missingRun + 1 } rfl rfl rfl))
    simp only [Lane.judging, Lane.judgeWord, if_neg (Nat.not_le.mpr short)]
  · rw [goes]
    simp only [Lane.judging, Lane.judgeWord, if_pos long]
    rfl

theorem beginTick_same {l : Lane} (notFaulted : ∀ cause, l.state ≠ .faulted cause) : l.beginTick = l := by
  unfold Lane.beginTick
  cases state : l.state with
  | faulted cause => exact absurd state (notFaulted cause)
  | off | syncing | settling | live _ => rfl

theorem beginTick_stuck {l : Lane} (stuck : l.state = .faulted .stuck) :
    l.beginTick = if 2000 ≤ l.cleanRun then { l.toLive with fullRun := 0 } else l := by
  unfold Lane.beginTick
  rw [stuck]
  rfl

theorem beginTick_resync {l : Lane} {cause : LaneCause} (faulted : l.state = .faulted cause) (other : cause ≠ .stuck) :
    l.beginTick = l.toSyncing := by
  unfold Lane.beginTick
  rw [faulted]
  cases cause with
  | stuck => exact absurd rfl other
  | noSync | framing | silent => rfl

/-- R16: the full-scale run that a sample makes of a run. -/
def fullRunOf (smp : Sample) (run : Nat) : Nat := if fullScale smp then run + 1 else 0

theorem Lane.judges_settling {l : Lane} (settling : l.state = .settling) (settleMs : Nat) :
    l.Judges settleMs false fun smp l' =>
      if 2000 ≤ fullRunOf smp l.fullRun then Lane.faultsBy false .stuck { l' with fullRun := fullRunOf smp l.fullRun }
      else { lane := Lane.countTick { l' with fullRun := fullRunOf smp l.fullRun, settleTicks := l.settleTicks + 1 },
             delivered := none, entered := false, fault := none } := by
  refine judges_of (takes := fun smp l' =>
    if 2000 ≤ (l'.countFullScale smp).fullRun then LaneTick.faulted .stuck (l'.countFullScale smp)
    else LaneTick.silent { l'.countFullScale smp with settleTicks := (l'.countFullScale smp).settleTicks + 1 })
    (beginTick_same (by rw [settling]; exact fun _ => LaneState.noConfusion)) (fun w => ?_) fun smp l' full _ settle => ?_
  · unfold Lane.stateTick
    rw [settling]
    rfl
  · have run : l'.countFullScale smp = { l' with fullRun := fullRunOf smp l.fullRun } := by rw [Lane.countFullScale, full]; rfl
    by_cases long : 2000 ≤ fullRunOf smp l.fullRun
    · simp only [run, if_pos long]
      rfl
    · simp only [run, if_neg long, settle]
      rfl

theorem Lane.judges_live {l : Lane} {reported : Bool} (live : l.state = .live reported) (settleMs : Nat) :
    l.Judges settleMs (!reported) fun smp l' =>
      if 2000 ≤ fullRunOf smp l.fullRun then Lane.faultsBy (!reported) .stuck { l' with fullRun := fullRunOf smp l.fullRun }
      else { lane := Lane.countTick { l' with state := .live true, fullRun := fullRunOf smp l.fullRun },
             delivered := some smp, entered := !reported, fault := none } := by
  refine judges_of (takes := fun smp l' =>
    if 2000 ≤ (l'.countFullScale smp).fullRun then { LaneTick.faulted .stuck (l'.countFullScale smp) with entered := !reported }
    else { lane := { l'.countFullScale smp with state := .live true }, delivered := some smp, entered := !reported, fault := none })
    (beginTick_same (by rw [live]; exact fun _ => LaneState.noConfusion)) (fun w => ?_) fun smp l' full _ _ => ?_
  · unfold Lane.stateTick
    rw [live]
    rfl
  · have run : l'.countFullScale smp = { l' with fullRun := fullRunOf smp l.fullRun } := by rw [Lane.countFullScale, full]; rfl
    by_cases long : 2000 ≤ fullRunOf smp l.fullRun
    · simp only [run, if_pos long]
      rfl
    · simp only [run, if_neg long]
      rfl

theorem Lane.judges_stuck {l : Lane} (stuck : l.state = .faulted .stuck) (unclean : l.cleanRun < 2000) (settleMs : Nat) :
    l.Judges settleMs false fun smp l' =>
      { lane := Lane.countTick { l' with cleanRun := if fullScale smp then 0 else l.cleanRun + 1 },
        delivered := none, entered := false, fault := none } := by
  refine judges_of (takes := fun smp l' => LaneTick.silent { l' with cleanRun := if fullScale smp then 0 else l'.cleanRun + 1 })
    (by rw [beginTick_stuck stuck, if_neg (Nat.not_le.mpr unclean)]) (fun w => ?_) fun smp l' _ clean _ => ?_
  · unfold Lane.stateTick
    rw [stuck]
    rfl
  · simp only [clean]
    rfl

theorem Lane.tick_syncing {l : Lane} (syncing : l.state = .syncing) (settleMs : Nat) (w : LaneWord) :
    l.tick settleMs w = (LaneTick.silent (l.syncTick settleMs w)).counted := by
  rw [Lane.tick_eq, beginTick_same (by rw [syncing]; exact fun _ => LaneState.noConfusion)]
  unfold Lane.stateTick
  rw [syncing]

theorem Lane.tick_of_begin {l l' : Lane} (begins : l.beginTick = l'.beginTick) (settleMs : Nat) (w : LaneWord) :
    l.tick settleMs w = l'.tick settleMs w := by
  rw [Lane.tick_eq, Lane.tick_eq, begins]

/-! ## What a lane's state says of its tick -/

/-- A tick either delivers a sample or none; what a lane outside LIVE makes of it delivers none and reports no LIVE entry. -/
theorem Lane.tick_silent {l : Lane} (quiet : l.beginTick.isLive = false) (settleMs : Nat) (w : LaneWord) :
    (l.tick settleMs w).delivered = none ∧ (l.tick settleMs w).entered = false := by
  have judged (takes : Sample → Lane → LaneTick) (l' : Lane)
      (silent : ∀ smp k, (takes smp k).delivered = none ∧ (takes smp k).entered = false) :
      (l'.judging false takes w).delivered = none ∧ (l'.judging false takes w).entered = false := by
    unfold Lane.judging
    simp only
    split
    · exact ⟨rfl, rfl⟩
    · exact silent _ _
  rw [Lane.tick_eq]
  show (l.beginTick.stateTick settleMs w).delivered = none ∧ (l.beginTick.stateTick settleMs w).entered = false
  generalize l.beginTick = b at quiet ⊢
  unfold Lane.stateTick
  unfold Lane.isLive at quiet
  cases state : b.state with
  | live reported => rw [state] at quiet; cases quiet
  | off | syncing => exact ⟨rfl, rfl⟩
  | settling =>
    refine judged (fun smp l' => if 2000 ≤ (l'.countFullScale smp).fullRun then LaneTick.faulted .stuck (l'.countFullScale smp)
      else LaneTick.silent { l'.countFullScale smp with settleTicks := (l'.countFullScale smp).settleTicks + 1 }) b fun smp k => ?_
    simp only
    split <;> exact ⟨rfl, rfl⟩
  | faulted cause =>
    cases cause with
    | stuck =>
      exact judged (fun smp l' => LaneTick.silent { l' with cleanRun := if fullScale smp then 0 else l'.cleanRun + 1 }) b
        fun _ _ => ⟨rfl, rfl⟩
    | noSync | framing | silent => exact ⟨rfl, rfl⟩

/-- R13, R17: a LIVE lane that faults delivers nothing, and a LIVE lane reports its entry once. -/
theorem Lane.tick_live {l : Lane} {reported : Bool} (live : l.state = .live reported) (settleMs : Nat) (w : LaneWord) :
    (l.tick settleMs w).entered = !reported ∧ ((l.tick settleMs w).fault.isSome = true → (l.tick settleMs w).delivered = none) := by
  have judged := Lane.judges_live live settleMs
  have taken (smp : Sample) (l' : Lane) : ∀ r : LaneTick,
      r = (if 2000 ≤ fullRunOf smp l.fullRun then Lane.faultsBy (!reported) .stuck { l' with fullRun := fullRunOf smp l.fullRun }
        else { lane := Lane.countTick { l' with state := .live true, fullRun := fullRunOf smp l.fullRun },
               delivered := some smp, entered := !reported, fault := none }) →
      r.entered = !reported ∧ (r.fault.isSome = true → r.delivered = none) := by
    rintro r rfl
    split
    · exact ⟨rfl, fun _ => rfl⟩
    · exact ⟨rfl, nofun⟩
  cases w with
  | wellFormed smp => exact taken _ _ _ (judged.good smp)
  | malformed =>
    by_cases few : (recentErrors l.tickNumber l.framingList).length < 7
    · exact taken _ _ _ (judged.malformed few)
    · rw [judged.framing (Nat.le_of_not_lt few)]
      exact ⟨rfl, fun _ => rfl⟩
  | missing =>
    by_cases short : l.missingRun + 1 < 4
    · exact taken _ _ _ (judged.missing short)
    · rw [judged.silent (Nat.le_of_not_lt short)]
      exact ⟨rfl, fun _ => rfl⟩

theorem isLive_iff {l : Lane} : l.isLive = true ↔ ∃ reported, l.state = .live reported := by
  unfold Lane.isLive
  cases l.state <;> simp

end Sys2Proof.Machine
end

section
/-! A channel's turn in a row (sections 1.3, 3.3, 3.5, 7.3, 8.1). -/

namespace Sys2Proof.Machine

/-! ## The turn and its outcomes -/

/-- R9, R133: a channel after its receiver has taken the word of a tick; a LIVE entry empties the ring. -/
def State.received (ch : Channel) (r : LaneTick) (s : State) : State :=
  { s with
    lanes := upd s.lanes ch fun _ => r.lane
    wave := { s.wave with rings := upd s.wave.rings ch fun ring => if r.entered then [] else ring } }

/-- R42: the end of a channel's turn: the tick is learned, and the rearm ticks remaining fall unless a closure set them. -/
def Taken.endTurn (ch : Channel) (delivered : Option Sample) (t : Taken) : Taken :=
  { t with
    state := if t.closed then learnTick ch delivered t.state else (learnTick ch delivered t.state).modDet ch Detector.lowerRearm }

theorem takeChannel_eq (words : Vector LaneWord 16) (ch : Channel) (s : State) :
    takeChannel words ch s =
      let r := s.lanes[ch].tick s.tables.setup.settleMs words[ch]
      (takeDelivered ch s.lanes[ch].beginTick.isLive r (s.received ch r)).endTurn ch r.delivered := by
  generalize same : s.lanes[ch].tick s.tables.setup.settleMs words[ch] = r
  have received : (if r.entered then ringClear ch (s.modLane ch fun _ => r.lane) else s.modLane ch fun _ => r.lane) = s.received ch r := by
    unfold State.received
    cases r.entered with
    | true => rfl
    | false =>
      simp only [Bool.false_eq_true, if_false]
      rw [upd_same_value s.wave.rings ch rfl]
      rfl
  unfold takeChannel
  simp only [same, received]
  rfl

/-- R59: what a tick of one channel adds to a learning period, by the acquisition state. -/
def Acq.learns (a : Acq) (ch : Channel) (f : Detector → Detector) (s : State) : State :=
  match a with
  | .learning _ _ => { s with dets := upd s.dets ch f }
  | .off | .starting _ _ | .standby | .armed | .draining _ => s

theorem learnTick_of_acq {ch : Channel} {s : State} {a : Acq} (delivered : Option Sample) (acq : s.acq = a) :
    learnTick ch delivered s = a.learns ch (Detector.learn delivered) s := by
  rw [← acq]
  rfl

theorem takeDelivered_sample {ch : Channel} {wasLive : Bool} {r : LaneTick} {s : State} {smp : Sample} (delivered : r.delivered = some smp) :
    takeDelivered ch wasLive r s = { takeSample ch smp s with state := consumeSample ch smp (takeSample ch smp s).state } := by
  unfold takeDelivered
  rw [delivered]

theorem takeDelivered_quiet {ch : Channel} {wasLive : Bool} {r : LaneTick} {s : State} (delivered : r.delivered = none)
    (fault : r.fault = none) : takeDelivered ch wasLive r s = { state := s, opened := false, closed := false } := by
  unfold takeDelivered
  rw [delivered, fault]
  simp only [Option.isSome_none, Bool.and_false, Bool.false_and, Bool.false_eq_true, if_false]

theorem takeDelivered_fault {ch : Channel} {wasLive : Bool} {r : LaneTick} {s : State} {cause : LaneCause} (delivered : r.delivered = none)
    (fault : r.fault = some cause) :
    takeDelivered ch wasLive r s =
      { state := laneFaulted ch wasLive s, opened := false, closed := s.dets[ch].open?.isSome && wasLive } := by
  unfold takeDelivered
  rw [delivered, fault]
  simp only [Option.isSome_some, Bool.and_true, if_true]

theorem SkinFree.modDet {g : State → State} (free : SkinFree g) (ch : Channel) (f : Detector → Detector) (s : State) :
    g (s.modDet ch f) = (g s).modDet ch f := by
  obtain ⟨dets, lanes, acq⟩ := free.keeps s
  refine (free (upd s.dets ch f) s.lanes s.acq s).trans ?_
  unfold State.modDet State.reskin
  rw [← lanes, ← acq, dets]

/-- R17: LANE.FAULT set for a channel. -/
def State.faultSet (ch : Channel) (s : State) : State := setFactor (.laneFault (ch.castLE (by decide))) ch.val none s

theorem faultSet_learns (a : Acq) (ch : Channel) (f : Detector → Detector) (s : State) :
    a.learns ch f (s.faultSet ch) = (a.learns ch f s).faultSet ch := by
  cases a with
  | learning n p => exact ((skinFree_setFactor _ _ _).modDet ch f s).symm
  | off | starting _ _ | standby | armed | draining _ => rfl

theorem laneFaulted_other (ch : Channel) (s : State) : laneFaulted ch false s = s.faultSet ch := rfl

theorem laneFaulted_live (ch : Channel) (s : State) : laneFaulted ch true s = departLive ch (s.faultSet ch) := rfl

theorem departLive_open {ch : Channel} {s : State} {h : OpenHit} (isOpen : s.dets[ch].machine = .inHit h) :
    departLive ch s = closeHit ch s.tt .laneFault s := by
  unfold departLive
  rw [isOpen]

theorem notInHit_of_open? {d : Detector} (closed : d.open? = none) (h : OpenHit) : d.machine ≠ .inHit h := by
  intro isOpen
  unfold Detector.open? at closed
  rw [isOpen] at closed
  cases closed

/-- R53: a departure of a LIVE lane without an open hit or a waiting entry. -/
theorem departLive_closed {ch : Channel} {s : State} (closed : s.dets[ch].open? = none) (none : s.dets[ch].waiting = .none) :
    departLive ch s = { s with dets := upd s.dets ch fun d => { d with machine := .blocked } } := by
  have notOpen := notInHit_of_open? closed
  have blocks : blockDetector ch s = { s with dets := upd s.dets ch fun d => { d with machine := .blocked } } := by
    rw [blockDetector_eq, upd_congr s.dets ch (g := fun d => { d with machine := .blocked }) (Detector.stoodDown_none notOpen none),
      upd_same_value s.lanes ch]
    · rfl
    · rw [none]
      cases isOpen : s.dets[ch].machine with
      | inHit h => exact absurd isOpen (notOpen h)
      | idle | rearmHold | blocked => rfl
  unfold departLive
  cases isOpen : s.dets[ch].machine with
  | inHit h => exact absurd isOpen (notOpen h)
  | idle | rearmHold | blocked => exact blocks

/-- R79: a closure that the filters do not judge, of a hit of no context and no segment. -/
theorem handOn_unjudged {c : ClosedHit} {s : State} (unjudged : c.cause.judged = false) (noSegment : s.wave.find c.channel c.hitId = none)
    (alone : s.asm.memberOf c.channel c.hitId = none) : handOn c s = offerStandalone EventTag.none c s := by
  have passed : filterRejects s.tables.filter c = false := by unfold filterRejects; rw [unjudged, Bool.false_and]
  rw [handOn_passed (segmentFillEnd_none noSegment) passed, passHit_alone alone]

/-- R52: the run of a channel may be set before or after a standalone record takes its way. -/
theorem offerStandalone_withRun (t : EventTag) (c : ClosedHit) (ch : Channel) (run : Nat) (s : State) :
    offerStandalone t c (s.withRun ch run) = (offerStandalone t c s).withRun ch run := (skinFree_offerStandalone c t).modDet ch _ s

/-- R48 to R52: a closure for a lane fault, of a hit of no context and no segment. -/
theorem closing_laneFault {ch : Channel} {h : OpenHit} {s : State} (noSegment : s.wave.find ch h.hitId = none)
    (alone : s.asm.memberOf ch h.hitId = none) :
    s.closing ch .laneFault h =
      offerStandalone EventTag.none (closedHitOf ch s.dets[ch].active s.tt .laneFault h)
        { s with dets := upd s.dets ch fun d => { d with machine := .blocked, rearm := d.active.rht, contRun := 0 } } := by
  have handed := handOn_unjudged (c := closedHitOf ch s.dets[ch].active s.tt .laneFault h) (s := s.modDet ch (Detector.afterClosure false))
    rfl noSegment alone
  refine (congrArg (State.withRun ch 0) handed).trans ?_
  rw [← offerStandalone_withRun]
  refine congrArg (offerStandalone _ _) ?_
  unfold State.withRun State.modDet
  rw [upd_upd]
  rfl

/-! ## The departure of a LIVE lane -/

theorem tick_departs {l : Lane} {settleMs : Nat} {w : LaneWord} {cause : LaneCause} (live : l.state = .live true)
    (fault : (l.tick settleMs w).fault = some cause) :
    l.beginTick.isLive = true ∧ (l.tick settleMs w).delivered = none ∧ (l.tick settleMs w).entered = false := by
  obtain ⟨entered, silent⟩ := Lane.tick_live live settleMs w
  have begins : l.beginTick = l := beginTick_same (by rw [live]; exact fun _ => LaneState.noConfusion)
  exact ⟨by rw [begins]; exact isLive_iff.mpr ⟨true, live⟩, silent (by rw [fault]; rfl), entered⟩

theorem received_same {ch : Channel} {r : LaneTick} {s : State} (entered : r.entered = false) :
    s.received ch r = { s with lanes := upd s.lanes ch fun _ => r.lane } := by
  unfold State.received
  simp only [entered, Bool.false_eq_true, if_false]
  rw [upd_same_value s.wave.rings ch rfl]

theorem takeChannel_departs {words : Vector LaneWord 16} {ch : Channel} {s : State} {cause : LaneCause} (live : s.lanes[ch].state = .live true)
    (fault : (s.lanes[ch].tick s.tables.setup.settleMs words[ch]).fault = some cause) :
    takeChannel words ch s =
      Taken.endTurn ch none
        { state := departLive ch (State.faultSet ch { s with lanes := upd s.lanes ch fun _ =>
            (s.lanes[ch].tick s.tables.setup.settleMs words[ch]).lane }),
          opened := false, closed := s.dets[ch].open?.isSome } := by
  obtain ⟨wasLive, silent, entered⟩ := tick_departs live fault
  rw [takeChannel_eq]
  simp only
  rw [takeDelivered_fault silent fault, received_same entered, wasLive, laneFaulted_live, silent, Bool.and_true]

theorem endTurn_learning {ch : Channel} {delivered : Option Sample} {t : Taken} {n period : Nat} (acq : t.state.acq = .learning n period)
    (goesOn : t.closed = false) : (t.endTurn ch delivered).state.dets = upd t.state.dets ch fun d => (d.learn delivered).lowerRearm := by
  unfold Taken.endTurn
  rw [learnTick_of_acq delivered acq, goesOn]
  exact upd_upd _ _ _ _

theorem endTurn_armed {ch : Channel} {t : Taken} (armed : t.state.acq = .armed) :
    t.endTurn ch none = { t with state := if t.closed then t.state else t.state.modDet ch Detector.lowerRearm } := by
  unfold Taken.endTurn
  rw [learnTick_of_acq none armed]
  rfl

end Sys2Proof.Machine
end

section
/-! R9 to R18, R42: receivers, departures and channel turns, assembled. -/

namespace Sys2Proof.Machine

theorem tick_syncs {l : Lane} (syncing : l.state = .syncing) (settleMs : Nat) (smp : Sample) :
    (l.goodRun + 1 < 8 → l.tick settleMs (.wellFormed smp) =
      (LaneTick.silent { l with held := smp, goodRun := l.goodRun + 1, syncTicks := l.syncTicks + 1 }).counted) ∧
    (8 ≤ l.goodRun + 1 → l.tick settleMs (.wellFormed smp) =
      (LaneTick.silent (Lane.toSettling settleMs { l with held := smp, goodRun := l.goodRun + 1, syncTicks := l.syncTicks + 1 })).counted) := by
  rw [Lane.tick_syncing syncing]
  exact ⟨fun short => congrArg (fun l => (LaneTick.silent l).counted) (if_neg (Nat.not_le.mpr short)),
    fun long => congrArg (fun l => (LaneTick.silent l).counted) (if_pos long)⟩

theorem isLive_settling {l : Lane} (settling : l.state = .settling) : l.beginTick.isLive = false := by
  rw [beginTick_same (by rw [settling]; exact fun _ => LaneState.noConfusion)]
  unfold Lane.isLive
  rw [settling]

theorem isLive_stuck {l : Lane} (stuck : l.state = .faulted .stuck) (unclean : l.cleanRun < 2000) : l.beginTick.isLive = false := by
  rw [beginTick_stuck stuck, if_neg (Nat.not_le.mpr unclean)]
  unfold Lane.isLive
  rw [stuck]

/-- R53, R57: a BLOCKED detector without a waiting entry is not touched by a fault of its lane. -/
theorem laneFaulted_dets {ch : Channel} {s : State} (wasLive : Bool) (blocked : s.dets[ch].machine = .blocked)
    (none : s.dets[ch].waiting = .none) : (laneFaulted ch wasLive s).dets = s.dets := by
  have set : (s.faultSet ch).dets = s.dets := setFactor_dets _ _ _ _
  cases wasLive with
  | false => exact set
  | true =>
    have closed : s.dets[ch].open? = .none := by unfold Detector.open?; rw [blocked]
    rw [laneFaulted_live, departLive_closed (by rw [set]; exact closed) (by rw [set]; exact none)]
    simp only [set]
    exact upd_same_value s.dets ch (by rw [← blocked])

/-- Settles O58: each receiver state through the two checks; a departure is a closure or a BLOCKED detector; a turn is the word taken,
the outcome and the learning. -/
theorem liveLanesDeliverOrFault : Obligations.LiveLanesDeliverOrFault := by
  refine ⟨?_, ?_, ?_, ?_⟩
  · intro l settleMs recent full run ticked quiet faulted erred judges
    have fulls (smp : Sample) : full smp = fullScale smp := Bool.eq_iff_iff.mpr (by rw [fullScale_iff]; exact decide_eq_true_iff)
    have runs (smp : Sample) : run smp = fullRunOf smp l.fullRun := by
      show (if full smp = true then l.fullRun + 1 else 0) = _
      rw [fulls]
      rfl
    have checks {entered : Bool} {takes : Sample → Lane → LaneTick} (h : l.Judges settleMs entered takes) : judges entered takes :=
      ⟨h.good, h.malformed, h.framing, h.missing, h.silent⟩
    refine ⟨fun off w => Lane.tick_off off settleMs w, fun syncing => ⟨fun w bad => ?_, fun smp => tick_syncs syncing settleMs smp⟩,
      fun settling => ?_, fun reported live => ?_, fun cause state other w => ?_, fun stuck => ⟨fun unclean => ?_, fun clean w => ?_⟩⟩
    · rw [Lane.tick_syncing syncing]
      rcases bad with rfl | rfl <;> rfl
    · simp only [runs]
      exact checks (Lane.judges_settling settling settleMs)
    · simp only [runs]
      exact checks (Lane.judges_live live settleMs)
    · exact Lane.tick_of_begin (beginTick_resync state other) settleMs w
    · simp only [fulls]
      exact checks (Lane.judges_stuck stuck unclean settleMs)
    · refine Lane.tick_of_begin (l' := { l with state := .live false, fullRun := 0 }) ?_ settleMs w
      rw [beginTick_stuck stuck, if_pos clean]
      rfl
  · intro s words ch cause live armed noEntry r fault left
    have departs := takeChannel_departs live fault
    have leftDets : left.dets = s.dets := setFactor_dets _ _ _ _
    have leftBooked := setFactor_booked (.laneFault (ch.castLE (by decide))) ch.val none ({ s with lanes := upd s.lanes ch fun _ => r.lane } : State)
    have leftAcq : left.acq = .armed := leftBooked.acq.trans armed
    have leftTt : left.tt = s.tt := leftBooked.tt
    refine ⟨fun h isOpen noSegment noMember => ?_, fun closed => ?_⟩
    · have opens : left.dets[ch].machine = .inHit h := by rw [leftDets]; exact isOpen
      have wave : left.wave = s.wave := setFactor_wave _ _ _ _
      have closing : departLive ch left =
          offerStandalone EventTag.none (closedHitOf ch s.dets[ch].active s.tt .laneFault h)
            { left with dets := upd s.dets ch fun d => { d with machine := .blocked, rearm := d.active.rht, contRun := 0 } } := by
        rw [departLive_open opens, closeHit_settled opens (.inr (by rw [leftDets]; exact noEntry)),
          closing_laneFault (by rw [wave]; exact noSegment) (by rw [leftBooked.asm]; exact memberOf_eq_none noMember), leftDets, leftTt]
      have isSome : s.dets[ch].open?.isSome = true := by unfold Detector.open?; rw [isOpen]; rfl
      have acq : (departLive ch left).acq = .armed := (departLive_routine ch left).acq.trans leftAcq
      rw [departs, isSome, endTurn_armed acq]
      simp only [if_true]
      exact congrArg (fun t => ({ state := t, opened := false, closed := true } : Taken)) closing
    · have isSome : s.dets[ch].open?.isSome = false := by rw [closed]; rfl
      have acq : (departLive ch left).acq = .armed := (departLive_routine ch left).acq.trans leftAcq
      have blocks := departLive_closed (ch := ch) (s := left) (by rw [leftDets]; exact closed) (by rw [leftDets]; exact noEntry)
      rw [departs, isSome, endTurn_armed acq]
      simp only [Bool.false_eq_true, if_false]
      refine congrArg (fun t => ({ state := t, opened := false, closed := false } : Taken)) ?_
      refine (congrArg (fun t => State.modDet t ch Detector.lowerRearm) blocks).trans ?_
      unfold State.modDet
      rw [leftDets, upd_upd]
      rfl
  · intro s words ch r received learns lowered uncovered
    have turn : takeChannel words ch s = (takeDelivered ch s.lanes[ch].beginTick.isLive r received).endTurn ch r.delivered :=
      takeChannel_eq words ch s
    have learned {t : State} (delivered : Option Sample) (acq : t.acq = s.acq) :
        learnTick ch delivered t = learns (Detector.learn delivered) t := learnTick_of_acq delivered acq
    refine ⟨?_, fun silent noFault => ?_, fun cause fault state => ?_⟩
    · intro smp delivered t consumed learnt
      have acq : consumed.acq = s.acq := (takeSample_routine ch smp received).acq
      rw [turn, takeDelivered_sample delivered, delivered]
      unfold Taken.endTurn
      rw [show consumeSample ch smp (takeSample ch smp received).state = consumed from rfl, learned (some smp) acq]
      rfl
    · rw [turn, takeDelivered_quiet silent noFault, silent]
      exact congrArg (fun u => ({ state := State.modDet u ch Detector.lowerRearm, opened := false, closed := false } : Taken))
        (learned (t := received) none rfl)
    · have wasLive : s.lanes[ch].beginTick.isLive = false := state.elim isLive_settling fun ⟨stuck, unclean⟩ => isLive_stuck stuck unclean
      have silent : r.delivered = none := (Lane.tick_silent wasLive _ _).1
      have acq : (State.faultSet ch received).acq = s.acq := (setFactor_booked _ _ _ received).acq
      have passes : learns (Detector.learn none) (State.faultSet ch received) = State.faultSet ch uncovered :=
        faultSet_learns s.acq ch (Detector.learn none) received
      rw [turn, takeDelivered_fault silent fault, wasLive, laneFaulted_other, silent, Bool.and_false]
      exact congrArg (fun u => ({ state := State.modDet u ch Detector.lowerRearm, opened := false, closed := false } : Taken))
        ((learned none acq).trans passes)
  · intro s words ch n period acq blocked noEntry d r
    have closed : s.dets[ch].open? = none := by unfold Detector.open?; rw [blocked]
    have turn : takeChannel words ch s
        = (takeDelivered ch s.lanes[ch].beginTick.isLive r (s.received ch r)).endTurn ch r.delivered := takeChannel_eq words ch s
    refine ⟨fun smp delivered => ?_, fun silent => ?_⟩
    · have untested : takeSample ch smp (s.received ch r) = { state := s.received ch r, opened := false, closed := false } :=
        takeSample_untested smp (unblock_elsewhere (s := s.received ch r) blocked (by rw [show (s.received ch r).acq = _ from acq]; simp))
          (.inr blocked)
      rw [turn, takeDelivered_sample delivered, untested, delivered, endTurn_learning (n := n) (period := period) acq rfl]
      exact upd_congr s.dets ch rfl
    · rw [turn, silent]
      cases fault : r.fault with
      | none =>
        rw [takeDelivered_quiet silent fault, endTurn_learning (n := n) (period := period) acq rfl]
        exact upd_congr s.dets ch rfl
      | some cause =>
        have acqThen := (laneFaulted_routine ch s.lanes[ch].beginTick.isLive (s.received ch r)).acq.trans acq
        have dets := laneFaulted_dets (s := s.received ch r) s.lanes[ch].beginTick.isLive blocked noEntry
        have isSome : (s.received ch r).dets[ch].open?.isSome = false := congrArg Option.isSome closed
        rw [takeDelivered_fault silent fault, endTurn_learning acqThen (by rw [isSome, Bool.false_and]), dets]
        exact upd_congr s.dets ch rfl

end Sys2Proof.Machine
end

section
/-! Segments at closures, members at closures, and the rings and pieces of the Waveform Store (sections 6.5, 8.1 to 8.7). -/

namespace Sys2Proof.Machine

/-! ## The segment of a closed hit -/

theorem find_eq_some {w : WaveStore} {ch : Channel} {id : Counter} {i : Fin 64} {g g' : Segment} (found : w.find ch id = some i)
    (held : w.segments[i] = some g) (same : g'.holds ch id = g.holds ch id) : (w.put i (some g')).find ch id = some i := by
  obtain ⟨here, before⟩ := find?_descriptors_eq_some.mp found
  refine find?_descriptors_eq_some.mpr ⟨?_, fun j earlier => ?_⟩
  · rw [held] at here
    rw [show (w.put i (some g')).segments[i] = some g' from upd_same _ _ _]
    exact same.trans here
  · rw [show (w.put i (some g')).segments[j] = w.segments[j] from upd_other _ _ _ _ (ne_of_gt earlier)]
    exact before j earlier

/-- R138: the return of blocks happens once. -/
theorem handOn_returns {c : ClosedHit} {s : State} {i : Fin 64} {g : Segment} (found : s.wave.find c.channel c.hitId = some i)
    (held : s.wave.segments[i] = some g) (more : blocksFor g.samples.length < g.blocks.length) :
    handOn c s = handOn c (evalShed (s.modWave fun w =>
      w.put i (some { g with blocks := g.blocks.take (blocksFor g.samples.length) }))) := by
  have returns := segmentFillEnd_returns found held more
  generalize ended : evalShed (s.modWave fun w => w.put i (some { g with blocks := g.blocks.take (blocksFor g.samples.length) })) = u
    at returns ⊢
  have wave : u.wave = s.wave.put i (some { g with blocks := g.blocks.take (blocksFor g.samples.length) }) := by
    rw [← ended, evalShed_wave]
    rfl
  have again : segmentFillEnd c.channel c.hitId u = u :=
    segmentFillEnd_fits (g := { g with blocks := g.blocks.take (blocksFor g.samples.length) })
      (by rw [wave]; exact find_eq_some found held rfl) (by rw [wave]; exact upd_same _ _ _) (List.length_take_le _ _)
  unfold handOn
  rw [returns, again]

/-! ## The member of a closed hit -/

/-- R82: the context of a closed member. -/
theorem MemberClosure.memberOf {s : State} {h : ClosedHit} {k : Fin 4} {c : Context} {before after : List Member} {m : Member}
    (closure : MemberClosure s h k c before m after) : s.asm.memberOf h.channel h.hitId = some k := by
  have isMember : c.members.any (Member.isOpenHit h.channel h.hitId) = true :=
    List.any_eq_true.mpr ⟨m, by rw [closure.split]; simp, isOpenHit_iff_closes.mpr closure.closes⟩
  cases found : s.asm.memberOf h.channel h.hitId with
  | none =>
    have none := List.find?_eq_none.mp found k (mem_contextNumbers k)
    rw [closure.used] at none
    exact absurd isMember none
  | some j =>
    have here := List.find?_some found
    cases used : s.asm.contexts[j] with
    | none => rw [used] at here; cases here
    | some b =>
      rw [used] at here
      obtain ⟨n, member, isHit⟩ := List.any_eq_true.mp here
      rw [closure.only j b n used member (isOpenHit_iff_closes.mp isHit)]

theorem parkIn_split {ch : Channel} {id : Counter} {before after : List Member} {m : Member} (hit : ClosedHit)
    (isHit : m.isOpenHit ch id = true) (first : ∀ b ∈ before, ¬ b.isOpenHit ch id = true) :
    parkIn ch id hit (before ++ m :: after) = before ++ { m with parked := some hit } :: after := by
  induction before with
  | nil => exact if_pos isHit
  | cons b before ih =>
    exact (if_neg (first b List.mem_cons_self)).trans (congrArg (b :: ·) (ih fun n member => first n (List.mem_cons_of_mem b member)))

theorem removeIn_split {ch : Channel} {id : Counter} {before after : List Member} {m : Member}
    (isHit : m.isOpenHit ch id = true) (first : ∀ b ∈ before, ¬ b.isOpenHit ch id = true) :
    removeIn ch id (before ++ m :: after) = before ++ after := by
  induction before with
  | nil => exact if_pos isHit
  | cons b before ih =>
    exact (if_neg (first b List.mem_cons_self)).trans (congrArg (b :: ·) (ih fun n member => first n (List.mem_cons_of_mem b member)))

section closure
variable {s : State} {h : ClosedHit} {k : Fin 4} {c : Context} {before after : List Member} {m : Member}

theorem MemberClosure.parkIn_members (closure : MemberClosure s h k c before m after) :
    parkIn h.channel h.hitId h c.members = before ++ { m with parked := some h } :: after := by
  rw [closure.split]
  exact parkIn_split h (isOpenHit_iff_closes.mpr closure.closes) fun b member => mt isOpenHit_iff_closes.mp (closure.first b member)

theorem MemberClosure.removeIn_members (closure : MemberClosure s h k c before m after) :
    removeIn h.channel h.hitId c.members = before ++ after := by
  rw [closure.split]
  exact removeIn_split (isOpenHit_iff_closes.mpr closure.closes) fun b member => mt isOpenHit_iff_closes.mp (closure.first b member)

/-- R101: a context with the hit of one member parked. -/
def Context.parking (h : ClosedHit) (before : List Member) (m : Member) (after : List Member) (c : Context) : Context :=
  { c with
    members := before ++ { m with parked := some h } :: after
    partialMark := c.partialMark || decide (h.cause = .laneFault) }

theorem MemberClosure.passes (closure : MemberClosure s h k c before m after) : passHit h s = parkMember k c h s := by
  simp only [passHit, closure.memberOf, closure.used]

/-- R101, R114: a parked hit that no completion test follows. -/
theorem MemberClosure.parks (closure : MemberClosure s h k c before m after)
    (untested : c.settling = false ∨ h.cause = .aborted ∨ h.cause = .clockFault) :
    passHit h s = (segmentWait h.channel h.hitId s).putContext k (some (c.parking h before m after)) := by
  rw [closure.passes]
  unfold parkMember
  rw [closure.parkIn_members]
  cases cause : h.cause with
  | aborted | clockFault =>
    unfold Context.parking
    rw [cause]
    rfl
  | normal | truncated | laneFault =>
    rw [cause] at untested
    have collecting : c.settling = false := untested.resolve_right (by simp)
    unfold Context.parking
    simp only [cause, collecting, Bool.false_eq_true, if_false]
    rfl

/-- R101, R105: a parked hit of a SETTLING context is followed by the completion test. -/
theorem MemberClosure.parks_tested (closure : MemberClosure s h k c before m after) (settling : c.settling = true)
    (unforced : ¬ (h.cause = .aborted ∨ h.cause = .clockFault)) :
    passHit h s = testComplete k (c.parking h before m after) (segmentWait h.channel h.hitId s) := by
  rw [closure.passes]
  unfold parkMember
  rw [closure.parkIn_members]
  unfold Context.parking
  cases cause : h.cause with
  | aborted => exact absurd (.inl cause) unforced
  | clockFault => exact absurd (.inr cause) unforced
  | normal | truncated | laneFault =>
    simp only [settling, if_true]
    rfl

end closure

/-! ## Rings -/

theorem takeDelivered_rings (ch : Channel) (wasLive : Bool) (r : LaneTick) (s : State) :
    (takeDelivered ch wasLive r s).state.wave.rings =
      upd s.wave.rings ch fun ring => match r.delivered with | some smp => (smp :: ring).take 1024 | none => ring := by
  cases delivered : r.delivered with
  | some smp =>
    rw [takeDelivered_sample delivered]
    refine .trans (b := upd (takeSample ch smp s).state.wave.rings ch fun ring => (smp :: ring).take ringSize) rfl ?_
    rw [(takeSample_handsOn ch smp s).rings]
    rfl
  | none =>
    rw [upd_same_value s.wave.rings ch rfl]
    cases fault : r.fault with
    | none => rw [takeDelivered_quiet delivered fault]
    | some cause =>
      rw [takeDelivered_fault delivered fault]
      exact (laneFaulted_handsOn ch wasLive s).rings

theorem endTurn_wave (ch : Channel) (delivered : Option Sample) (t : Taken) : (t.endTurn ch delivered).state.wave = t.state.wave := by
  have learned : (learnTick ch delivered t.state).wave = t.state.wave := by
    rw [learnTick_of_acq delivered rfl]
    cases t.state.acq <;> rfl
  unfold Taken.endTurn
  simp only
  split
  · exact learned
  · exact learned

/-! ## Pieces -/

/-- R143: pieces of 256 samples in order. -/
theorem flatMap_pieces (l : List Sample) (n : Nat) :
    (List.range n).flatMap (fun i => (l.drop (256 * i)).take 256) = l.take (256 * n) := by
  induction n with
  | zero => rfl
  | succ n ih =>
    rw [List.range_succ, List.flatMap_append, ih, List.flatMap_singleton, Nat.mul_succ, List.take_add]

theorem piece_at (g : Segment) (i : Nat) : (Segment.piece { g with nextPiece := i }).samples = (g.samples.drop (256 * i)).take 256 := by
  rw [Segment.piece_eq]

end Sys2Proof.Machine
end

section
/-! Rings, the capture decision, the life of a segment and its pieces, assembled (chapter 8). -/

namespace Sys2Proof.Machine

theorem takeSample_goesOn {ch : Channel} {smp : Sample} {h : OpenHit} {s : State} (isOpen : s.dets[ch].machine = .inHit h)
    (goesOn : (takeSample ch smp s).closed = false) :
    ∃ h' : OpenHit, h'.hitId = h.hitId ∧ (takeSample ch smp s).state = s.sampled ch smp h' := by
  have taken := takeSample_open (smp := smp) isOpen
  simp only at taken
  generalize later : h.update (decide (s.dets[ch].thrCode ≤ magnitude smp)) s.dets[ch].active.pst s.tt smp = h' at taken
  refine ⟨h', by rw [← later]; rfl, ?_⟩
  cases closure : h'.closure s.dets[ch].active s.tt with
  | none => rw [taken, closure]
  | some cause =>
    rw [taken, closure] at goesOn
    cases goesOn

theorem filled_some {ch : Channel} {id : Counter} {smp : Sample} {w : WaveStore} {i : Fin 64} {g : Segment} (found : w.find ch id = some i)
    (held : w.segments[i] = some g) (filling : g.state = .filling) :
    w.filled ch id smp =
      { w with segments := (upd w.segments i fun _ => some (g.append smp)) } := by
  unfold WaveStore.filled
  rw [found]
  refine congrArg (fun segments => ({ w with segments := segments } : WaveStore)) (upd_congr _ i ?_)
  rw [held, Option.map_some, if_neg (not_not.mpr filling)]
  rfl

/-- Settles O59: each part by the lemma about its operation; the closures by the fate of the hit. -/
theorem capturesAndPieces : Obligations.CapturesAndPieces := by
  refine ⟨?_, ?_, ?_, ?_, ?_⟩
  · intro s words ch r old
    rw [takeChannel_eq]
    simp only
    rw [endTurn_wave, takeDelivered_rings]
    refine (upd_upd _ _ _ _).trans (upd_congr _ ch ?_)
    cases r.delivered <;> rfl
  · intro s ch id arrival e needed free before
    refine ⟨decideCapture_off, fun on => ⟨decideCapture_skips on, fun i level room isFree lowest => ?_⟩⟩
    exact decideCapture_captures on level room isFree lowest
  · intro s ch smp h i g isOpen found held filling r filled goesOn
    obtain ⟨h', sameId, taken⟩ := takeSample_goesOn isOpen goesOn
    have wave : r.state.wave = s.wave.filled ch h.hitId smp := by
      rw [show r.state = _ from taken, ← sameId]
      rfl
    rw [wave, filled_some found held filling]
    exact ⟨fun room => congrArg filled (if_pos room), fun full => congrArg filled (if_neg (Nat.not_lt.mpr full))⟩
  · intro s h i g found held keep tag counted freed gap enters complete shed floor
    have sheds : floorSheds h s = true ↔ floor := floorSheds_iff
    refine ⟨fun more => handOn_returns found held more, fun noMember fits => ⟨fun rejected => ?_, fun passed => ?_⟩, fun below => ?_,
      fun above full => ?_, fun above room => ⟨fun all => ?_, fun other => ?_⟩, fun eventId room => ?_, ?_, ?_, ?_, ?_⟩
    · have alone : s.asm.memberOf h.channel h.hitId = none :=
        memberOf_eq_none fun k x m used member ⟨isOpen, channel, hitId⟩ => noMember k x m used member ⟨isOpen, channel, hitId⟩
      rw [handOn_rejected (segmentFillEnd_fits found held fits) rejected, rejectHit_alone alone,
        freeSegmentOf_some (s := s.modCounts h.channel _) found]
      rfl
    · have alone : s.asm.memberOf h.channel h.hitId = none :=
        memberOf_eq_none fun k x m used member ⟨isOpen, channel, hitId⟩ => noMember k x m used member ⟨isOpen, channel, hitId⟩
      rw [handOn_passed (segmentFillEnd_fits found held fits) passed, passHit_alone alone]
      rfl
    · rw [offerStandalone_sheds tag (sheds.mpr below), shedRecord_some found]
      rfl
    · rw [offerStandalone_loses tag (sheds.not.mpr above) full, loseRecord_some found]
      rfl
    · rw [offerStandalone_admits tag (sheds.not.mpr above) room, admitRecord_completes tag found held (by rw [all]; rfl)]
      rfl
    · rw [offerStandalone_admits tag (sheds.not.mpr above) room, admitRecord_frees tag found held (by simpa [Path.completes] using other)]
      rfl
    · have admits : offerMember eventId h s = admitRecord .member h { eventId := some eventId, lost := false } s :=
        if_neg (Nat.not_le.mpr room)
      rw [admits, admitRecord_completes _ found held rfl]
      rfl
    · rw [shedRecord_some found]
      rfl
    · intro k c before m after closure fits passed collecting parked
      rw [handOn_passed (segmentFillEnd_fits found held fits) passed, closure.parks (.inl collecting), segmentWait_some found held]
      rfl
    · exact fun eventOnly => (segmentLeavesContext_some found held).trans (if_pos eventOnly)
    · exact fun other => (segmentLeavesContext_some found held).trans (if_neg other)
  · intro g pieces
    have below {i : Nat} : i < (g.samples.length + 255) / 256 ↔ 256 * i < g.samples.length := by omega
    refine ⟨?_, fun p member => ?_, fun i inside => ?_⟩
    · have samples : pieces.flatMap Piece.samples
          = (List.range ((g.samples.length + 255) / 256)).flatMap fun i => (g.samples.drop (256 * i)).take 256 := by
        rw [List.flatMap_map]
        exact congrArg (fun f => List.flatMap f _) (funext fun i => piece_at g i)
      rw [samples, flatMap_pieces]
      exact List.take_of_length_le (by omega)
    · obtain ⟨i, range, rfl⟩ := List.mem_map.mp member
      have inside := below.mp (List.mem_range.mp range)
      rw [piece_at]
      refine ⟨List.length_take_le _ _, fun empty => ?_⟩
      have length := congrArg List.length empty
      rw [List.length_take, List.length_drop, List.length_nil] at length
      omega
    · rw [Segment.piece_eq, decide_eq_true_iff]
      show g.samples.length ≤ 256 * (i + 1) ↔ _
      omega

end Sys2Proof.Machine
end

section
/-! Released openings: GUARDED, joined, opening a context, or unassociated (sections 5.2, 6.3). -/

namespace Sys2Proof.Machine

/-! ## The first candidate -/

/-- R95: ascending open_time, then ascending number. -/
def Precedes (a b : Fin 4 × Context) : Prop :=
  a.2.openTime.toNat < b.2.openTime.toNat ∨ (a.2.openTime.toNat = b.2.openTime.toNat ∧ a.1 ≤ b.1)

theorem Precedes.refl (a : Fin 4 × Context) : Precedes a a := .inr ⟨rfl, le_rfl⟩

theorem Precedes.trans {a b c : Fin 4 × Context} (h : Precedes a b) (k : Precedes b c) : Precedes a c := by
  unfold Precedes at *
  omega

theorem Precedes.number_eq {a b : Fin 4 × Context} (h : Precedes a b) (k : Precedes b a) : a.1 = b.1 := by
  unfold Precedes at *
  omega

theorem earlier_precedes {a b : Fin 4 × Context} (order : a.1 < b.1) : Precedes (earlier a b) a ∧ Precedes (earlier a b) b := by
  unfold earlier
  split
  · next before => exact ⟨.inl before, .refl b⟩
  · exact ⟨.refl a, by unfold Precedes; omega⟩

theorem foldl_earlier_precedes (l : List (Fin 4 × Context)) (a : Fin 4 × Context) (first : ∀ b ∈ l, a.1 < b.1)
    (order : l.Pairwise fun x y => x.1 < y.1) : ∀ b ∈ a :: l, Precedes (l.foldl earlier a) b := by
  induction l generalizing a with
  | nil => exact fun b member => List.mem_singleton.mp member ▸ .refl a
  | cons y l ih =>
    obtain ⟨next, order⟩ := List.pairwise_cons.mp order
    obtain ⟨beforeA, beforeY⟩ := earlier_precedes (first y List.mem_cons_self)
    have chosen : ∀ b ∈ l, (earlier a y).1 < b.1 := by
      unfold earlier
      split
      · exact next
      · exact fun b member => first b (List.mem_cons_of_mem y member)
    have rest := ih (earlier a y) chosen order
    have head := rest (earlier a y) List.mem_cons_self
    intro b member
    rcases List.mem_cons.mp member with rfl | member
    · exact head.trans beforeA
    · rcases List.mem_cons.mp member with rfl | member
      · exact head.trans beforeY
      · exact rest b (List.mem_cons_of_mem _ member)

theorem mem_select_iff {a : Assembler} {p : Context → Bool} {k : Fin 4} {c : Context} :
    (k, c) ∈ a.select p ↔ a.contexts[k] = some c ∧ p c = true := by
  unfold Assembler.select
  rw [List.mem_filterMap]
  constructor
  · rintro ⟨j, -, found⟩
    split at found
    · next b used =>
      split at found
      · next chosen =>
        obtain ⟨rfl, rfl⟩ := Prod.mk.inj (Option.some.inj found)
        exact ⟨used, chosen⟩
      · cases found
    · cases found
  · rintro ⟨used, chosen⟩
    exact ⟨k, mem_contextNumbers k, by rw [used]; exact if_pos chosen⟩

theorem select_ascends (a : Assembler) (p : Context → Bool) : (a.select p).Pairwise fun x y => x.1 < y.1 := by
  have ascends : contextNumbers.Pairwise (· < ·) := by decide
  refine ascends.filterMap _ fun j i order x atJ y atI => ?_
  have number {k : Fin 4} {z : Fin 4 × Context}
      (found : (match a.contexts[k] with | some c => if p c then some (k, c) else none | none => none) = some z) : z.1 = k := by
    split at found
    · split at found
      · rw [← Option.some.inj found]
      · cases found
    · cases found
  rw [number atJ, number atI]
  exact order

/-- R95: the first candidate is one that precedes every other. -/
theorem earliest_select {a : Assembler} {p : Context → Bool} {k : Fin 4} {c : Context} (used : a.contexts[k] = some c)
    (chosen : p c = true) (first : ∀ (j : Fin 4) (b : Context), a.contexts[j] = some b → p b = true → Precedes (k, c) (j, b)) :
    earliest (a.select p) = some (k, c) := by
  have member : (k, c) ∈ a.select p := mem_select_iff.mpr ⟨used, chosen⟩
  have order := select_ascends a p
  cases list : a.select p with
  | nil => rw [list] at member; cases member
  | cons x l =>
    rw [list] at member order
    obtain ⟨head, order⟩ := List.pairwise_cons.mp order
    have precedes := foldl_earlier_precedes l x head order (k, c) member
    have inList : l.foldl earlier x ∈ a.select p := by rw [list]; exact foldl_earlier_mem x l
    obtain ⟨usedThere, chosenThere⟩ := (mem_select_iff (k := (l.foldl earlier x).1) (c := (l.foldl earlier x).2)).mp inList
    have same : k = (l.foldl earlier x).1 := (first _ _ usedThere chosenThere).number_eq precedes
    refine congrArg some (Prod.ext same.symm ?_)
    rw [← same, used] at usedThere
    exact (Option.some.inj usedThere).symm

theorem earliest_none {a : Assembler} {p : Context → Bool} (none : ∀ (k : Fin 4) (c : Context), a.contexts[k] = some c → p c = false) :
    earliest (a.select p) = .none := by
  cases list : a.select p with
  | nil => rfl
  | cons x l =>
    obtain ⟨used, chosen⟩ := (mem_select_iff (k := x.1) (c := x.2)).mp (show x ∈ a.select p by rw [list]; exact List.mem_cons_self)
    rw [none _ _ used] at chosen
    cases chosen

/-! ## FREE contexts -/

theorem freeContext_eq_some {a : Assembler} {k : Fin 4} :
    a.freeContext = some k ↔ a.contexts[k] = none ∧ ∀ j < k, a.contexts[j] ≠ none := by
  have numbers : contextNumbers = List.finRange 4 := by decide
  unfold Assembler.freeContext
  rw [numbers, ← Fin.find?_eq_find?_finRange, Fin.find?_eq_some_iff, Option.isNone_iff_eq_none]
  refine and_congr_right fun _ => forall₂_congr fun j _ => ?_
  rw [ne_eq, ← Option.isNone_iff_eq_none, Bool.not_eq_true]

theorem freeContext_none {a : Assembler} (full : ∀ k : Fin 4, a.contexts[k] ≠ none) : a.freeContext = none := by
  refine List.find?_eq_none.mpr fun k _ => ?_
  rw [Option.isNone_iff_eq_none]
  exact full k

/-! ## The judgement of an opening -/

theorem admits_iff {c : Context} {t : Tables} {j : Channel} {time : TestTime} :
    c.admits t j time = true ↔
      c.settling = false ∧ (∃ p, t.pairOf c.first j = some p ∧ ticksBetween time c.openTime ≤ p.dtMax) ∧
      ticksBetween time c.openTime ≤ ticksBetween c.windowEnd c.openTime ∧ ∀ m ∈ c.members, m.channel ≠ j := by
  have near : (match t.pairOf c.first j with | some p => decide (ticksBetween time c.openTime ≤ p.dtMax) | none => false) = true ↔
      ∃ p, t.pairOf c.first j = some p ∧ ticksBetween time c.openTime ≤ p.dtMax := by
    cases t.pairOf c.first j with
    | none => simp
    | some p => simp
  unfold Context.admits
  simp only [Bool.and_eq_true, Bool.not_eq_true', decide_eq_true_eq, List.all_eq_true, bne_iff_ne, and_assoc]
  exact and_congr_right fun _ => and_congr_left' near

theorem hasPair_iff {t : Tables} {j : Channel} : t.hasPair j = true ↔ ∃ p ∈ t.usedPairs, p.chA = j ∨ p.chB = j := by
  unfold Tables.hasPair PairEntry.touches
  simp only [List.any_eq_true, Bool.or_eq_true, beq_iff_eq]

section opening
variable {s : State} {ch : Channel} {h : OpenHit} (isOpen : s.dets[ch].machine = .inHit h)
include isOpen

theorem judgeOpening_guarded (guard : 0 < s.guard[ch]) :
    judgeOpening ch s =
      (s.modOpen ch fun h => { h with guarded := true }).modCounts ch fun k => { k with guarded := k.guarded + 1 } := by
  unfold judgeOpening
  rw [isOpen]
  exact if_pos guard

theorem judgeOpening_offers (guard : s.guard[ch] = 0) : judgeOpening ch s = offerOpening ch h s := by
  unfold judgeOpening
  rw [isOpen]
  exact if_neg (Nat.not_lt.mpr (Nat.le_of_eq guard))

theorem modOpen_dets (f : OpenHit → OpenHit) : s.modOpen ch f = { s with dets := upd s.dets ch fun d => { d with machine := .inHit (f h) } } :=
  congrArg (fun dets => ({ s with dets := dets } : State)) (upd_congr s.dets ch (Detector.modOpen_open isOpen f))

end opening

theorem offerOpening_joins {s : State} {ch : Channel} {h : OpenHit} {k : Fin 4} {c : Context}
    (first : earliest (s.asm.select fun c => c.admits s.tables ch h.arrival) = some (k, c)) :
    offerOpening ch h s = s.putContext k (some (joinContext c ch h)) := by
  unfold offerOpening
  rw [first]

theorem offerOpening_alone {s : State} {ch : Channel} {h : OpenHit}
    (none : earliest (s.asm.select fun c => c.admits s.tables ch h.arrival) = .none) :
    offerOpening ch h s =
      if s.tables.hasPair ch then
        match s.asm.freeContext with
        | some k => s.putContext k (some (openContext s ch h))
        | .none =>
          (s.modAsm fun a => { a with hitsNoContext := a.hitsNoContext + 1 }).modOpen ch fun h => { h with noContext := true }
      else s := by
  unfold offerOpening
  rw [none] <;> rfl

/-- R86, R94 to R97: GUARDED, or the first context that admits the opening, or a context of its own. -/
theorem judgeOpening_spec (s : State) (ch : Channel) (h : OpenHit) (isOpen : s.dets[ch].machine = .inHit h) :
    (0 < s.guard[ch] → judgeOpening ch s =
      { s with
        dets := upd s.dets ch fun d => { d with machine := .inHit { h with guarded := true } }
        rq := { s.rq with counts := upd s.rq.counts ch fun k => { k with guarded := k.guarded + 1 } } }) ∧
    (s.guard[ch] = 0 →
      (∀ (k : Fin 4) (c : Context), s.asm.contexts[k] = some c → c.admits s.tables ch h.arrival = true →
        (∀ (j : Fin 4) (b : Context), s.asm.contexts[j] = some b → b.admits s.tables ch h.arrival = true → Precedes (k, c) (j, b)) →
        judgeOpening ch s = s.putContext k (some (joinContext c ch h))) ∧
      ((∀ (k : Fin 4) (c : Context), s.asm.contexts[k] = some c → c.admits s.tables ch h.arrival = false) →
        (s.tables.hasPair ch = false → judgeOpening ch s = s) ∧
        (∀ k : Fin 4, s.tables.hasPair ch = true → s.asm.contexts[k] = none → (∀ j : Fin 4, j < k → s.asm.contexts[j] ≠ none) →
          judgeOpening ch s = s.putContext k (some (openContext s ch h))) ∧
        (s.tables.hasPair ch = true → (∀ k : Fin 4, s.asm.contexts[k] ≠ none) →
          judgeOpening ch s =
            { s with
              asm := { s.asm with hitsNoContext := s.asm.hitsNoContext + 1 }
              dets := upd s.dets ch fun d => { d with machine := .inHit { h with noContext := true } } }))) := by
  refine ⟨fun guard => ?_, fun guard => ⟨fun k c used admits first => ?_, fun none => ⟨fun unpaired => ?_, fun k paired free lowest => ?_,
    fun paired full => ?_⟩⟩⟩
  · rw [judgeOpening_guarded isOpen guard, modOpen_dets isOpen]
    rfl
  · rw [judgeOpening_offers isOpen guard, offerOpening_joins (earliest_select used admits first)]
  · rw [judgeOpening_offers isOpen guard, offerOpening_alone (earliest_none none), unpaired]
    exact if_neg Bool.false_ne_true
  · rw [judgeOpening_offers isOpen guard, offerOpening_alone (earliest_none none), if_pos paired,
      freeContext_eq_some.mpr ⟨free, lowest⟩]
  · rw [judgeOpening_offers isOpen guard, offerOpening_alone (earliest_none none), if_pos paired, freeContext_none full]
    exact modOpen_dets (s := s.modAsm _) isOpen _

end Sys2Proof.Machine
end

section
/-! R104, R115: what the dissolution of a context does. -/

namespace Sys2Proof.Machine

/-! ## Work that gives no hit a segment -/

/-- Every segment that holds a hit held it before, under the same descriptor. -/
def NoNewSegment (s t : State) : Prop :=
  ∀ (i : Fin 64) (g : Segment) (ch : Channel) (id : Counter), t.wave.segments[i] = some g → g.holds ch id = true →
    ∃ g', s.wave.segments[i] = some g' ∧ g'.holds ch id = true

theorem NoNewSegment.of_wave {s t : State} (wave : t.wave = s.wave) : NoNewSegment s t := by
  intro i g ch id held holds
  rw [wave] at held
  exact ⟨g, held, holds⟩

theorem NoNewSegment.trans {s t u : State} (h : NoNewSegment s t) (k : NoNewSegment t u) : NoNewSegment s u := by
  intro i g ch id held holds
  obtain ⟨g', held, holds⟩ := k i g ch id held holds
  exact h i g' ch id held holds

theorem NoNewSegment.find_none {s t : State} {ch : Channel} {id : Counter} (h : NoNewSegment s t) (none : s.wave.find ch id = none) :
    t.wave.find ch id = .none := by
  refine find_none_iff.mpr fun i g held => Bool.eq_false_iff.mpr fun holds => ?_
  obtain ⟨g', held, holds⟩ := h i g ch id held holds
  rw [find_none_iff.mp none i g' held] at holds
  cases holds

theorem freeSegment_segments (i : Fin 64) (s : State) : (freeSegment i s).wave.segments = upd s.wave.segments i fun _ => none := by
  unfold freeSegment
  rw [evalShed_wave]
  rfl

theorem freeSegment_noNew (i : Fin 64) (s : State) : NoNewSegment s (freeSegment i s) := by
  intro j g ch id held holds
  rw [freeSegment_segments, upd_get] at held
  split at held
  · cases held
  · exact ⟨g, held, holds⟩

theorem freeSegmentOf_noNew (ch : Channel) (id : Counter) (s : State) : NoNewSegment s (freeSegmentOf ch id s) := by
  unfold freeSegmentOf
  split
  · exact .of_wave rfl
  · exact freeSegment_noNew _ s

theorem segmentComplete_noNew (i : Fin 64) (g : Segment) (s : State) : NoNewSegment s (segmentComplete i g s) := by
  intro j g' ch id held holds
  rw [show (segmentComplete i g s).wave.segments = upd s.wave.segments i fun _ => some { g with state := .complete } from rfl, upd_get] at held
  split at held
  · obtain rfl := Option.some.inj held
    simp [Segment.holds] at holds
  · exact ⟨g', held, holds⟩

theorem segmentAdmitted_noNew (p : Path) (ch : Channel) (id : Counter) (s : State) : NoNewSegment s (segmentAdmitted p ch id s).1 := by
  unfold segmentAdmitted
  split
  · exact .of_wave rfl
  · split
    · split
      · exact segmentComplete_noNew _ _ s
      · exact freeSegment_noNew _ s
    · exact .of_wave rfl

theorem shedRecord_noNew (c : ClosedHit) (s : State) : NoNewSegment s (shedRecord c s) :=
  NoNewSegment.trans (t := s.modCounts c.channel fun k => { k with shed := k.shed + 1 }) (.of_wave rfl) (freeSegmentOf_noNew _ _ _)

theorem loseRecord_noNew (c : ClosedHit) (s : State) : NoNewSegment s (loseRecord c s) := by
  rw [loseRecord_eq]
  exact (NoNewSegment.trans (t := s.losing c) (.of_wave rfl) (freeSegmentOf_noNew _ _ _)).trans (.of_wave (setFactor_wave _ _ _ _))

theorem admitRecord_noNew (p : Path) (c : ClosedHit) (t : EventTag) (s : State) : NoNewSegment s (admitRecord p c t s) := by
  rw [admitRecord_eq]
  exact (segmentAdmitted_noNew p c.channel c.hitId s).trans (.of_wave (evalShed_wave _))

theorem offerStandalone_noNew (t : EventTag) (c : ClosedHit) (s : State) : NoNewSegment s (offerStandalone t c s) := by
  unfold offerStandalone
  split
  · exact shedRecord_noNew c s
  · split
    · exact loseRecord_noNew c s
    · exact admitRecord_noNew _ c t s

theorem NoNewSegment.foldl {α : Type} {f : State → α → State} (h : ∀ s a, NoNewSegment s (f s a)) (as : List α) (s : State) :
    NoNewSegment s (as.foldl f s) := by
  induction as generalizing s with
  | nil => exact .of_wave rfl
  | cons a as ih => exact (h s a).trans (ih _)

/-! ## Open members told of a dissolution -/

/-- R104: an open hit after a dissolution with these members. -/
def OpenHit.leaving (ms : List Member) (ch : Channel) (h : OpenHit) : OpenHit :=
  if ms.any (Member.isOpenHit ch h.hitId) then { h with orphaned := true } else h

theorem isOpenHit_of_parked {m : Member} {c : ClosedHit} (parked : m.parked = some c) (ch : Channel) (id : Counter) :
    m.isOpenHit ch id = false := by
  unfold Member.isOpenHit
  rw [parked]
  rfl

theorem dissolveOpen_det {ch : Channel} {h : OpenHit} {s : State} (m : Member) (isOpen : s.dets[ch].machine = .inHit h) :
    (dissolveOpen m s).dets[ch] =
      { s.dets[ch] with machine := .inHit (if m.isOpenHit ch h.hitId then { h with orphaned := true } else h) } := by
  have stays : s.dets[ch] = { s.dets[ch] with machine := .inHit h } := by rw [← isOpen]
  unfold dissolveOpen
  cases parked : m.parked with
  | some c => rw [isOpenHit_of_parked parked, if_neg Bool.false_ne_true, ← stays]
  | none =>
    simp only [(segmentLeavesContext_booked _ _ _).dets, markOrphaned, State.modOpen, State.modDet]
    by_cases same : m.channel = ch
    · rw [same, upd_same, Detector.modOpen_open isOpen]
      by_cases isHit : h.hitId = m.hitId
      · rw [if_pos isHit, if_pos (isOpenHit_iff.mpr ⟨parked, same, isHit.symm⟩)]
      · rw [if_neg isHit, if_neg fun found => isHit (isOpenHit_iff.mp found).2.2.symm]
    · rw [upd_other _ _ _ _ same, if_neg fun found => same (isOpenHit_iff.mp found).2.1, ← stays]

theorem foldl_dissolveOpen_det {ch : Channel} (ms : List Member) {h : OpenHit} {s : State} (isOpen : s.dets[ch].machine = .inHit h) :
    (ms.foldl (fun s m => dissolveOpen m s) s).dets[ch] = { s.dets[ch] with machine := .inHit (h.leaving ms ch) } := by
  induction ms generalizing s h with
  | nil =>
    rw [List.foldl_nil, show h.leaving [] ch = h from rfl, ← isOpen]
  | cons m ms ih =>
    have turned := dissolveOpen_det m isOpen
    have next := ih (s := dissolveOpen m s) (congrArg Detector.machine turned)
    rw [List.foldl_cons, next, turned]
    unfold OpenHit.leaving
    rw [List.any_cons]
    cases m.isOpenHit ch h.hitId with
    | true =>
      simp only [if_true, Bool.true_or]
      split <;> rfl
    | false => simp only [Bool.false_eq_true, if_false, Bool.false_or]

theorem dissolveOpen_noSegment {m : Member} {s : State} (none : m.parked = .none → s.wave.find m.channel m.hitId = .none) :
    dissolveOpen m s = { s with dets := (dissolveOpen m s).dets } := by
  unfold dissolveOpen
  cases parked : m.parked with
  | some c => rfl
  | none =>
    simp only
    rw [segmentLeavesContext_none (s := markOrphaned m.channel m.hitId s) (none parked)]
    rfl

theorem foldl_dissolveOpen_noSegment (ms : List Member) {s : State}
    (none : ∀ m ∈ ms, m.parked = .none → s.wave.find m.channel m.hitId = .none) :
    ms.foldl (fun s m => dissolveOpen m s) s = { s with dets := (ms.foldl (fun s m => dissolveOpen m s) s).dets } := by
  induction ms generalizing s with
  | nil => rfl
  | cons m ms ih =>
    have turned := dissolveOpen_noSegment (none m List.mem_cons_self)
    have wave : (dissolveOpen m s).wave = s.wave := by rw [turned]
    have rest := ih (s := dissolveOpen m s) fun n member open' => by rw [wave]; exact none n (List.mem_cons_of_mem m member) open'
    rw [List.foldl_cons]
    generalize ms.foldl (fun s m => dissolveOpen m s) (dissolveOpen m s) = t at rest ⊢
    rw [rest, turned]

/-! ## The dissolution -/

theorem orphan_eq (c : ClosedHit) : orphan c = c.leaving := by
  unfold orphan ClosedHit.leaving
  cases c.cause <;> rfl

theorem dissolve_eq (k : Fin 4) (members : List Member) (s : State) :
    dissolve k members s =
      members.foldl (fun s m => dissolveOpen m s)
        ((members.filterMap Member.parked).foldl (fun s h => offerStandalone { eventId := none, lost := false } h.leaving s)
          { s with asm := (dissolve k members s).asm }) := by
  have started : (if members.isEmpty then s.putContext k none
      else (s.putContext k none).modAsm fun a => { a with eventsDissolved := a.eventsDissolved + 1 })
      = { s with asm := (dissolve k members s).asm } := by
    rw [dissolve_asm]
    cases members <;> rfl
  rw [← started]
  unfold dissolve
  simp only [orphan_eq]
  rfl

theorem foldl_offerStandalone_dets (tag : EventTag) (f : ClosedHit → ClosedHit) (hits : List ClosedHit) (s : State) :
    (hits.foldl (fun s h => offerStandalone tag (f h) s) s).dets = s.dets := by
  induction hits generalizing s with
  | nil => rfl
  | cons h hits ih =>
    have turned : (offerStandalone tag (f h) s).dets = s.dets := by rw [(offerStandalone_fated tag (f h) s).eq]
    exact (ih _).trans turned

theorem foldl_offerStandalone_noNew (tag : EventTag) (f : ClosedHit → ClosedHit) (hits : List ClosedHit) (s : State) :
    NoNewSegment s (hits.foldl (fun s h => offerStandalone tag (f h) s) s) := .foldl (fun u h => offerStandalone_noNew tag (f h) u) hits s

/-- R104, R115: a dissolution, whatever the state. -/
theorem dissolve_dissolved (k : Fin 4) (members : List Member) (s : State) : Dissolved s (dissolve k members s) k members := by
  have steps := dissolve_eq k members s
  have assembler := dissolve_asm k members s
  generalize dissolve k members s = t at steps assembler ⊢
  have noNew := foldl_offerStandalone_noNew { eventId := none, lost := false } ClosedHit.leaving (members.filterMap Member.parked)
    { s with asm := t.asm }
  have dets := foldl_offerStandalone_dets { eventId := none, lost := false } ClosedHit.leaving (members.filterMap Member.parked)
    { s with asm := t.asm }
  generalize offered : (members.filterMap Member.parked).foldl
    (fun s h => offerStandalone { eventId := none, lost := false } h.leaving s) { s with asm := t.asm } = u at steps noNew dets
  have told {ch : Channel} {h : OpenHit} (isOpen : s.dets[ch].machine = .inHit h) :
      t.dets[ch] = { s.dets[ch] with machine := .inHit (h.leaving members ch) } := by
    rw [steps, foldl_dissolveOpen_det members (by rw [dets]; exact isOpen), dets]
  refine ⟨assembler, fun ch h isOpen ⟨m, member, isHit⟩ => ?_, fun ch spared => ?_, fun noSegment => ?_⟩
  · rw [told isOpen]
    unfold OpenHit.leaving
    rw [if_pos (List.any_eq_true.mpr ⟨m, member, isOpenHit_iff.mpr isHit⟩)]
  · by_cases isOpen : ∃ h, s.dets[ch].machine = .inHit h
    · obtain ⟨h, isOpen⟩ := isOpen
      rw [told isOpen]
      unfold OpenHit.leaving
      rw [if_neg fun found => ?_, ← isOpen]
      obtain ⟨m, member, isHit⟩ := List.any_eq_true.mp found
      exact spared h isOpen m member (isOpenHit_iff.mp isHit)
    · have closed := not_exists.mp isOpen
      have marks : Marks u t := by
        rw [steps]
        exact .foldl (fun u m => dissolveOpen_marks m u) members u
      rw [marks.det (by rw [dets]; exact closed), dets]
  · have alone := foldl_dissolveOpen_noSegment members (s := u) fun m member isOpen => noNew.find_none (noSegment m member isOpen)
    rw [← steps] at alone
    rw [offered]
    exact alone

end Sys2Proof.Machine
end

section
/-! R106 to R112: what the completion of an event does. -/

namespace Sys2Proof.Machine

/-! ## What the fates of records leave alone -/

/-- The fates of records, without the account: bookkeeping, the Hit Queue, counters and interval figures; no zone's factor. -/
structure Filed (s t : State) : Prop where
  eq : t = { s with
    wave := t.wave
    cond := { s.cond with factors := t.cond.factors }
    rq := { s.rq with hits := t.rq.hits, notices := t.rq.notices, shed := t.rq.shed, counts := t.rq.counts }
    timer := { s.timer with figures := t.timer.figures } }
  zones : ∀ z : Zone, t.cond.factors.get (.holdActivity z) = s.cond.factors.get (.holdActivity z)

theorem Filed.refl (s : State) : Filed s s := ⟨rfl, fun _ => rfl⟩

theorem Filed.trans {s t u : State} (h : Filed s t) (k : Filed t u) : Filed s u := by
  refine ⟨?_, fun z => (k.zones z).trans (h.zones z)⟩
  rw [k.eq]
  simp only
  rw [h.eq]

theorem Filed.foldl {α : Type} {f : State → α → State} (h : ∀ s a, Filed s (f s a)) (as : List α) (s : State) : Filed s (as.foldl f s) := by
  induction as generalizing s with
  | nil => exact .refl s
  | cons a as ih => exact (h s a).trans (ih _)

theorem setFactor_zone {f : Factor} {z : Zone} (other : f ≠ .holdActivity z) (index : Nat) (reached : Option Nat) (s : State) :
    (setFactor f index reached s).cond.factors.get (.holdActivity z) = s.cond.factors.get (.holdActivity z) := by
  rw [setFactor_get, beq_eq_false_iff_ne.mpr other.symm, Bool.or_false]

theorem evalShed_zone (z : Zone) (s : State) : (evalShed s).cond.factors.get (.holdActivity z) = s.cond.factors.get (.holdActivity z) := by
  by_cases step : shedStep s.rq.shed s.rq.hits.length s.wave.freeBlocks = s.rq.shed
  · rw [evalShed_stays step]
  · rw [evalShed_moves rfl step, setFactor_zone (by simp)]

theorem freeSegment_zone (i : Fin 64) (z : Zone) (s : State) :
    (freeSegment i s).cond.factors.get (.holdActivity z) = s.cond.factors.get (.holdActivity z) := evalShed_zone z (s.modWave _)

theorem freeSegmentOf_zone (ch : Channel) (id : Counter) (z : Zone) (s : State) :
    (freeSegmentOf ch id s).cond.factors.get (.holdActivity z) = s.cond.factors.get (.holdActivity z) := by
  unfold freeSegmentOf
  split
  · rfl
  · exact freeSegment_zone _ z s

theorem segmentAdmitted_zone (p : Path) (ch : Channel) (id : Counter) (z : Zone) (s : State) :
    (segmentAdmitted p ch id s).1.cond.factors.get (.holdActivity z) = s.cond.factors.get (.holdActivity z) := by
  unfold segmentAdmitted
  split
  · rfl
  · split
    · split
      · rfl
      · exact freeSegment_zone _ z s
    · rfl

theorem shedRecord_filed (c : ClosedHit) (s : State) : Filed s (shedRecord c s) :=
  ⟨(shedRecord_fated c s).eq, fun z => freeSegmentOf_zone _ _ z (s.modCounts c.channel _)⟩

theorem loseRecord_filed (c : ClosedHit) (s : State) : Filed s (loseRecord c s) := by
  refine ⟨(loseRecord_fated c s).eq, fun z => ?_⟩
  rw [loseRecord_eq, setFactor_zone (by simp), freeSegmentOf_zone]
  rfl

theorem admitRecord_filed (p : Path) (c : ClosedHit) (t : EventTag) {s : State} (room : s.rq.hits.length < hitCapacity) :
    Filed s (admitRecord p c t s) := by
  refine ⟨(admitRecord_fated p c t s room).eq, fun z => ?_⟩
  rw [admitRecord_eq, evalShed_zone]
  exact segmentAdmitted_zone p _ _ z s

theorem offerStandalone_filed (t : EventTag) (c : ClosedHit) (s : State) : Filed s (offerStandalone t c s) := by
  unfold offerStandalone
  split
  · exact shedRecord_filed c s
  · split
    · exact loseRecord_filed c s
    · next room => exact admitRecord_filed _ c t (Nat.lt_of_not_le room)

theorem offerMember_filed (eventId : Counter) (c : ClosedHit) (s : State) : Filed s (offerMember eventId c s) := by
  unfold offerMember
  split
  · exact loseRecord_filed c s
  · next room => exact admitRecord_filed _ c _ (Nat.lt_of_not_le room)

theorem handMembers_filed (eventId : Counter) (hits : List ClosedHit) (s : State) : Filed s (handMembers eventId hits s) := by
  unfold handMembers
  split
  · exact .foldl (fun u c => offerMember_filed eventId c u) hits s
  · exact .foldl (fun u c => shedRecord_filed c u) hits s

/-! ## Members handed to the Hit Queue -/

/-- Records with these tags have joined the tail of the Hit Queue, one for each hit, in order. -/
def Joined (eventId : Option Counter) (lost : Bool) (hits : List ClosedHit) (s t : State) : Prop :=
  ∃ queued : List QueuedHit, t.rq.hits = s.rq.hits ++ queued ∧
    queued.map (fun q => (q.record.hitId, q.record.eventId, q.record.flags.eventLost)) = hits.map fun h => (h.hitId, eventId, lost)

theorem Joined.nil (eventId : Option Counter) (lost : Bool) (s : State) : Joined eventId lost [] s s := ⟨[], by simp⟩

theorem Joined.cons {eventId : Option Counter} {lost : Bool} {c : ClosedHit} {hits : List ClosedHit} {s t u : State}
    (h : Joined eventId lost [c] s t) (k : Joined eventId lost hits t u) : Joined eventId lost (c :: hits) s u := by
  obtain ⟨first, atEnd, tags⟩ := h
  obtain ⟨rest, after, others⟩ := k
  exact ⟨first ++ rest, by rw [after, atEnd, List.append_assoc], by rw [List.map_append, tags, others]; rfl⟩

theorem Joined.length {eventId : Option Counter} {lost : Bool} {hits : List ClosedHit} {s t : State} (h : Joined eventId lost hits s t) :
    t.rq.hits.length = s.rq.hits.length + hits.length := by
  obtain ⟨queued, atEnd, tags⟩ := h
  have count := congrArg List.length tags
  rw [List.length_map, List.length_map] at count
  rw [atEnd, List.length_append, count]

theorem Joined.split {eventId : Option Counter} {lost : Bool} {hits : List ClosedHit} {s t : State} (h : Joined eventId lost hits s t) :
    t.rq.hits.take s.rq.hits.length = s.rq.hits ∧
    (t.rq.hits.drop s.rq.hits.length).map (fun q => (q.record.hitId, q.record.eventId, q.record.flags.eventLost))
      = hits.map fun h => (h.hitId, eventId, lost) := by
  obtain ⟨queued, atEnd, tags⟩ := h
  rw [atEnd, List.take_left, List.drop_left]
  exact ⟨rfl, tags⟩

theorem admitRecord_joined (p : Path) (c : ClosedHit) (t : EventTag) (s : State) : Joined t.eventId t.lost [c] s (admitRecord p c t s) := by
  have hits := (segmentAdmitted_booked p c.channel c.hitId s).hits
  rw [admitRecord_eq]
  refine ⟨[{ record := recordOf c t (gapField s.rq.counts[c.channel].gap) (segmentAdmitted p c.channel c.hitId s).2
             entryTime := (segmentAdmitted p c.channel c.hitId s).1.now }], ?_, rfl⟩
  rw [(evalShed_booked _).hits, ← hits]
  rfl

theorem foldl_offerMember_joined (eventId : Counter) (hits : List ClosedHit) {s : State} (room : s.rq.hits.length + hits.length ≤ 256) :
    Joined (some eventId) false hits s (hits.foldl (fun s c => offerMember eventId c s) s) := by
  induction hits generalizing s with
  | nil => exact .nil _ _ s
  | cons c hits ih =>
    rw [List.length_cons] at room
    have admits : offerMember eventId c s = admitRecord .member c { eventId := some eventId, lost := false } s :=
      if_neg (show ¬ hitCapacity ≤ s.rq.hits.length from fun full => by unfold hitCapacity at full; omega)
    have joined : Joined (some eventId) false [c] s (offerMember eventId c s) := by
      rw [admits]
      exact admitRecord_joined .member c { eventId := some eventId, lost := false } s
    exact joined.cons (ih (by rw [joined.length, List.length_singleton]; omega))

theorem evalShed_shed (s : State) : (evalShed s).rq.shed = shedStep s.rq.shed s.rq.hits.length s.wave.freeBlocks := by
  obtain ⟨fs, ns, frame, -⟩ := evalShed_frame s
  rw [frame]
  rfl

/-- R160: below 192 records the shed level does not pass 1. -/
theorem shedStep_low {level : Fin 4} {n : Nat} (f : Nat) (low : level.val < 2) (few : n < 192) : (shedStep level n f).val < 2 := by
  match level, low with
  | 0, _ =>
    simp only [shedStep]
    split <;> decide
  | 1, _ =>
    simp only [shedStep, if_neg (Nat.not_le.mpr few)]
    split <;> decide
  | 2, low | 3, low => exact absurd low (by decide)

theorem evalShed_low {s : State} (low : s.rq.shed.val < 2) (few : s.rq.hits.length < 192) : (evalShed s).rq.shed.val < 2 := by
  rw [evalShed_shed]
  exact shedStep_low _ low few

theorem admitRecord_low (p : Path) (c : ClosedHit) (t : EventTag) {s : State} (low : s.rq.shed.val < 2) (few : s.rq.hits.length + 1 < 192) :
    (admitRecord p c t s).rq.shed.val < 2 := by
  have decided : (segmentAdmitted p c.channel c.hitId s).1.rq.shed.val < 2 := by
    unfold segmentAdmitted
    split
    · exact low
    · split
      · split
        · exact low
        · exact evalShed_low (s := s.modWave _) low (Nat.lt_of_succ_lt few)
      · exact low
  have hits := (segmentAdmitted_booked p c.channel c.hitId s).hits
  rw [admitRecord_eq]
  refine evalShed_low decided ?_
  show ((segmentAdmitted p c.channel c.hitId s).1.rq.hits ++ [_]).length < 192
  rw [hits, List.length_append]
  exact few

theorem foldl_offerStandalone_joined (tag : EventTag) (hits : List ClosedHit) {s : State} (low : s.rq.shed.val < 2)
    (few : s.rq.hits.length + hits.length < 192) :
    Joined tag.eventId tag.lost hits s (hits.foldl (fun s c => offerStandalone tag c s) s) := by
  induction hits generalizing s with
  | nil => exact .nil _ _ s
  | cons c hits ih =>
    rw [List.length_cons] at few
    have admits : offerStandalone tag c s = admitRecord .standalone c tag s :=
      offerStandalone_admits tag (fun floor => absurd (floorSheds_iff.mp floor).1 (Nat.not_le.mpr low)) (by omega)
    have joined : Joined tag.eventId tag.lost [c] s (offerStandalone tag c s) := by
      rw [admits]
      exact admitRecord_joined .standalone c tag s
    refine joined.cons (ih ?_ (by rw [joined.length, List.length_singleton]; omega))
    rw [admits]
    exact admitRecord_low _ c tag low (by omega)

/-- R110: members of a queued event shed, one for each hit. -/
theorem foldl_shedRecord (hits : List ClosedHit) (s : State) :
    (hits.foldl (fun s c => shedRecord c s) s).rq.hits = s.rq.hits ∧
    ∀ ch : Channel, (hits.foldl (fun s c => shedRecord c s) s).rq.counts[ch].shed
      = s.rq.counts[ch].shed + BitVec.ofNat 32 (hits.countP fun h => h.channel == ch) := by
  induction hits generalizing s with
  | nil => exact ⟨rfl, fun ch => by simp⟩
  | cons c hits ih =>
    have booked := freeSegmentOf_booked c.channel c.hitId (s.modCounts c.channel fun k => { k with shed := k.shed + 1 })
    have sameHits : (shedRecord c s).rq.hits = s.rq.hits := booked.hits
    have counts : (shedRecord c s).rq.counts = upd s.rq.counts c.channel fun k => { k with shed := k.shed + 1 } := booked.counts
    obtain ⟨restHits, restCounts⟩ := ih (shedRecord c s)
    refine ⟨restHits.trans sameHits, fun ch => ?_⟩
    rw [List.foldl_cons, restCounts, counts, List.countP_cons, upd_get]
    by_cases same : c.channel = ch
    · rw [if_pos same, if_pos (beq_iff_eq.mpr same), BitVec.ofNat_add]
      show s.rq.counts[ch].shed + 1#32 + _ = _
      ac_rfl
    · rw [if_neg same, if_neg (mt beq_iff_eq.mp same), Nat.add_zero]

end Sys2Proof.Machine
end

section
/-! R106 to R112: a completion, queued or lost. -/

namespace Sys2Proof.Machine

/-- What a completion writes after its event has been counted: the fates of its members, and the zone's count. -/
structure Closed (s t : State) : Prop where
  eq : t = { s with
    wave := t.wave
    cond := { s.cond with factors := t.cond.factors }
    rq := { s.rq with hits := t.rq.hits, notices := t.rq.notices, shed := t.rq.shed, counts := t.rq.counts }
    timer := { s.timer with figures := t.timer.figures, eventsCompleted := t.timer.eventsCompleted }
    hist := { s.hist with holdCounts := t.hist.holdCounts } }

theorem Filed.closed {s t : State} (h : Filed s t) : Closed s t := by
  refine ⟨?_⟩
  rw [h.eq]

theorem Closed.trans {s t u : State} (h : Closed s t) (k : Closed t u) : Closed s u := by
  refine ⟨?_⟩
  rw [k.eq]
  simp only
  rw [h.eq]

/-! ## The zone rule -/

theorem zoneRule_counts {z : Zone} {s : State} (hold : s.hist.phase = .hold) (below : s.hist.holdCounts[z] < 65535) :
    zoneRule z s =
      if s.hist.holdCounts[z] + 1 = s.tables.zone[z] then
        setFactor (.holdActivity z) z.val none
          { s with hist := { s.hist with holdCounts := upd s.hist.holdCounts z fun n => n + 1 } }
      else { s with hist := { s.hist with holdCounts := upd s.hist.holdCounts z fun n => n + 1 } } := by
  have counts : s.hist.phase = .hold ∧ s.hist.holdCounts[z] < holdLimitMax := ⟨hold, below⟩
  unfold zoneRule
  simp only [if_pos counts]
  rfl

theorem zoneRule_same {z : Zone} {s : State} (held : s.hist.phase ≠ .hold ∨ 65535 ≤ s.hist.holdCounts[z]) : zoneRule z s = s :=
  if_neg fun ⟨hold, below⟩ => held.elim (fun other => other hold) fun limit => absurd below (Nat.not_lt.mpr limit)

theorem setFactor_closed (f : Factor) (index : Nat) (reached : Option Nat) (s : State) : Closed s (setFactor f index reached s) := by
  refine ⟨?_⟩
  rw [(setFactor_booked f index reached s).eq]

theorem zoneRule_closed (z : Zone) (s : State) : Closed s (zoneRule z s) := by
  by_cases counts : s.hist.phase = .hold ∧ s.hist.holdCounts[z] < 65535
  · rw [zoneRule_counts counts.1 counts.2]
    have counted : Closed s { s with hist := { s.hist with holdCounts := upd s.hist.holdCounts z fun n => n + 1 } } := ⟨rfl⟩
    split
    · exact counted.trans (setFactor_closed _ _ _ _)
    · exact counted
  · rw [zoneRule_same ((not_and_or.mp counts).imp id Nat.le_of_not_lt)]
    exact ⟨rfl⟩

theorem zoneRule_hits (z : Zone) (s : State) : (zoneRule z s).rq.hits = s.rq.hits ∧ (zoneRule z s).rq.counts = s.rq.counts ∧
    (zoneRule z s).timer = s.timer := by
  by_cases counts : s.hist.phase = .hold ∧ s.hist.holdCounts[z] < 65535
  · rw [zoneRule_counts counts.1 counts.2]
    split
    · have booked := setFactor_booked (.holdActivity z) z.val none
        ({ s with hist := { s.hist with holdCounts := upd s.hist.holdCounts z fun n => n + 1 } } : State)
      exact ⟨booked.hits, booked.counts, booked.timer⟩
    · exact ⟨rfl, rfl, rfl⟩
  · rw [zoneRule_same ((not_and_or.mp counts).imp id Nat.le_of_not_lt)]
    exact ⟨rfl, rfl, rfl⟩

/-! ## The event record -/

theorem locate_eq (distance velocity dt : Nat) :
    locate distance velocity dt =
      (if (2000 * distance - velocity * dt : Int) < 0 then 0 else ((2000 * distance - velocity * dt + 2000 : Int) / 4000).toNat,
        decide ((2000 * distance - velocity * dt : Int) < 0)) := by
  unfold locate
  rw [← Nat.cast_mul]
  generalize velocity * dt = travel
  by_cases far : 2000 * distance < travel
  · have negative : (2000 * distance - travel : Int) < 0 := by omega
    rw [if_pos far, if_pos negative, decide_eq_true negative]
  · have positive : ¬ (2000 * distance - travel : Int) < 0 := by omega
    rw [if_neg far, if_neg positive, decide_eq_false positive]
    refine Prod.ext ?_ rfl
    show (2000 * distance - travel + 2000) / 4000 = ((2000 * distance - travel + 2000 : Int) / 4000).toNat
    omega

theorem eventRecordOf_eq {s : State} {m1 m2 : Member} {p : PairEntry} (pair : s.tables.pairOf m1.channel m2.channel = some p) (c : Context) :
    eventRecordOf s.tables s.asm.nextEvent c m1 m2 = eventOf s c m1 m2 p := by
  have distance : distanceOf s.tables m1.channel m2.channel = p.distanceMm := by unfold distanceOf; rw [pair]
  unfold eventRecordOf eventOf
  simp only [distance, locate_eq]
  rfl

/-! ## A completion -/

/-- R106: an event_id taken and the context FREE. -/
def State.eventTaken (k : Fin 4) (s : State) : State :=
  { s with asm := { s.asm with contexts := upd s.asm.contexts k fun _ => none, nextEvent := s.asm.nextEvent + 1 } }

/-- R110: an event queued, before its members are handed on. -/
def State.eventQueued (k : Fin 4) (r : EventRecord) (s : State) : State :=
  { s.eventTaken k with
    rq := { s.rq with events := s.rq.events ++ [r] }
    asm := { s.asm with
      contexts := upd s.asm.contexts k fun _ => none, nextEvent := s.asm.nextEvent + 1, eventsQueued := s.asm.eventsQueued + 1 } }

/-- R112: an event completed, counted for the interval. -/
def State.eventCounted (s : State) : State := { s with timer := { s.timer with eventsCompleted := s.timer.eventsCompleted + 1 } }

theorem complete_queues {s : State} {m1 m2 : Member} {p : PairEntry} (k : Fin 4) (c : Context) (room : s.rq.events.length < 32)
    (pair : s.tables.pairOf m1.channel m2.channel = some p) :
    complete k c m1 m2 s =
      zoneRule c.zone (handMembers s.asm.nextEvent c.parkedHits (s.eventQueued k (eventOf s c m1 m2 p))).eventCounted := by
  unfold complete
  simp only [eventRecordOf_eq pair]
  exact if_pos room

/-- R111: an event lost. -/
def State.eventLost (k : Fin 4) (s : State) : State :=
  setFactor .eventLoss 0 none
    { s with asm := { s.asm with
        contexts := upd s.asm.contexts k fun _ => none, nextEvent := s.asm.nextEvent + 1, eventsLost := s.asm.eventsLost + 1 } }

theorem complete_loses {s : State} (k : Fin 4) (c : Context) (m1 m2 : Member) (full : 32 ≤ s.rq.events.length) :
    complete k c m1 m2 s =
      c.parkedHits.foldl (fun u h => offerStandalone { eventId := some s.asm.nextEvent, lost := true } h u) (s.eventLost k) := by
  unfold complete
  exact if_neg (Nat.not_lt.mpr full)

theorem handMembers_joined {eventId : Counter} {hits : List ClosedHit} {s : State} (low : s.rq.shed.val < 2)
    (room : s.rq.hits.length + hits.length ≤ 256) : Joined (some eventId) false hits s (handMembers eventId hits s) := by
  unfold handMembers
  rw [if_pos low]
  exact foldl_offerMember_joined eventId hits room

theorem handMembers_sheds {eventId : Counter} {hits : List ClosedHit} {s : State} (high : 2 ≤ s.rq.shed.val) :
    (handMembers eventId hits s).rq.hits = s.rq.hits ∧
    ∀ ch : Channel, (handMembers eventId hits s).rq.counts[ch].shed
      = s.rq.counts[ch].shed + BitVec.ofNat 32 (hits.countP fun h => h.channel == ch) := by
  unfold handMembers
  rw [if_neg (Nat.not_lt.mpr high)]
  exact foldl_shedRecord hits s

/-- R110, R112: a completion whose event is queued. -/
theorem completed_of_room {s : State} {m1 m2 : Member} {p : PairEntry} (k : Fin 4) (c : Context) (room : s.rq.events.length < 32)
    (pair : s.tables.pairOf m1.channel m2.channel = some p) : Completed s (complete k c m1 m2 s) k c m1 m2 p := by
  have result := complete_queues k c room pair
  generalize complete k c m1 m2 s = t at result ⊢
  have filed := handMembers_filed s.asm.nextEvent c.parkedHits (s.eventQueued k (eventOf s c m1 m2 p))
  have joined (low : s.rq.shed.val < 2) (fits : s.rq.hits.length + c.parkedHits.length ≤ 256) :=
    handMembers_joined (eventId := s.asm.nextEvent) (hits := c.parkedHits) (s := s.eventQueued k (eventOf s c m1 m2 p)) low fits
  have sheds (high : 2 ≤ s.rq.shed.val) :=
    handMembers_sheds (eventId := s.asm.nextEvent) (hits := c.parkedHits) (s := s.eventQueued k (eventOf s c m1 m2 p)) high
  generalize handMembers s.asm.nextEvent c.parkedHits (s.eventQueued k (eventOf s c m1 m2 p)) = u at result filed joined sheds
  have hist : u.hist = s.hist := by rw [filed.eq]; rfl
  have tables : u.tables = s.tables := by rw [filed.eq]; rfl
  have zone : u.cond.factors.get (.holdActivity c.zone) = s.cond.factors.get (.holdActivity c.zone) := filed.zones c.zone
  have completed : u.timer.eventsCompleted = s.timer.eventsCompleted := by rw [filed.eq]; rfl
  have closed : Closed (s.eventQueued k (eventOf s c m1 m2 p)) t := by
    rw [result]
    exact (filed.closed.trans (t := u) (u := u.eventCounted) ⟨rfl⟩).trans (zoneRule_closed c.zone u.eventCounted)
  obtain ⟨hits, counts, timer⟩ : t.rq.hits = u.rq.hits ∧ t.rq.counts = u.rq.counts ∧ t.timer = u.eventCounted.timer := by
    rw [result]
    exact zoneRule_hits c.zone u.eventCounted
  have frame := closed.eq
  have notLost : ¬ 32 ≤ s.rq.events.length := Nat.not_le.mpr room
  refine
    { contexts := by rw [frame]; rfl
      nextEvent := by rw [frame]; rfl
      counters := by rw [frame]; exact ⟨rfl, rfl, rfl⟩
      controller := by rw [frame]; exact ⟨rfl, rfl, rfl, rfl, rfl⟩
      others := by rw [frame]; exact ⟨rfl, rfl, rfl, rfl, rfl, rfl⟩
      history := by rw [frame]; exact ⟨rfl, rfl, rfl⟩
      queued := fun _ => ⟨by rw [frame]; rfl, by rw [frame]; rfl, by rw [frame]; rfl, ?_⟩
      handed := fun _ low => ?_
      shed := fun _ high => ?_
      advanced := fun _ hold below => ?_
      held := fun _ still => ?_
      lost := fun full => absurd full notLost
      lostHits := fun full => absurd full notLost }
  · rw [timer]
    show u.timer.eventsCompleted + 1 = _
    rw [completed]
  · intro hitsOf fits
    rw [hits]
    exact (joined low fits).split
  · intro hitsOf
    rw [hits, counts]
    exact sheds high
  · have counts : u.eventCounted.hist.holdCounts[c.zone] = s.hist.holdCounts[c.zone] := by
      rw [show u.eventCounted.hist = u.hist from rfl, hist]
    have rule := zoneRule_counts (z := c.zone) (s := u.eventCounted) (by rw [show u.eventCounted.hist = u.hist from rfl, hist]; exact hold)
      (by rw [counts]; exact below)
    rw [← result, counts, show u.eventCounted.tables = s.tables from tables] at rule
    by_cases reaches : s.hist.holdCounts[c.zone] + 1 = s.tables.zone[c.zone]
    · rw [rule, if_pos reaches]
      refine ⟨?_, fun _ => ?_, fun other => absurd reaches other⟩
      · rw [(setFactor_booked _ _ _ _).hist]
        show upd u.hist.holdCounts c.zone _ = _
        rw [hist]
      · rw [setFactor_get, BEq.rfl, Bool.or_true]
    · rw [rule, if_neg reaches]
      refine ⟨?_, fun same => absurd same reaches, fun _ => zone⟩
      show upd u.hist.holdCounts c.zone _ = _
      rw [hist]
  · have rule := zoneRule_same (z := c.zone) (s := u.eventCounted) (by rw [show u.eventCounted.hist = u.hist from rfl, hist]; exact still)
    rw [result, rule]
    exact ⟨by rw [show u.eventCounted.hist = u.hist from rfl, hist], zone⟩

/-- R111: a completion whose event is lost. -/
theorem completed_of_full {s : State} {m1 m2 : Member} (p : PairEntry) (k : Fin 4) (c : Context) (full : 32 ≤ s.rq.events.length) :
    Completed s (complete k c m1 m2 s) k c m1 m2 p := by
  have result := complete_loses k c m1 m2 full
  generalize complete k c m1 m2 s = t at result ⊢
  have booked := setFactor_booked .eventLoss 0 none ({ s with asm := { s.asm with
    contexts := upd s.asm.contexts k fun _ => none, nextEvent := s.asm.nextEvent + 1, eventsLost := s.asm.eventsLost + 1 } } : State)
  have shed : (s.eventLost k).rq.shed = s.rq.shed := by
    obtain ⟨fs, ns, frame, -⟩ := setFactor_frame .eventLoss 0 none ({ s with asm := { s.asm with
      contexts := upd s.asm.contexts k fun _ => none, nextEvent := s.asm.nextEvent + 1, eventsLost := s.asm.eventsLost + 1 } } : State)
    rw [show s.eventLost k = _ from frame]
    rfl
  have set : (s.eventLost k).cond.factors.get .eventLoss = true := by
    unfold State.eventLost
    rw [setFactor_get, BEq.rfl, Bool.or_true]
  have joined (low : s.rq.shed.val < 2) (few : s.rq.hits.length + c.parkedHits.length < 192) :
      Joined (some s.asm.nextEvent) true c.parkedHits (s.eventLost k) t := by
    rw [result]
    exact foldl_offerStandalone_joined { eventId := some s.asm.nextEvent, lost := true } c.parkedHits (by rw [shed]; exact low)
      (by rw [show (s.eventLost k).rq.hits = _ from booked.hits]; exact few)
  have filed : Filed (s.eventLost k) t := by
    rw [result]
    exact .foldl (fun u h => offerStandalone_filed _ h u) _ _
  have latched : t.cond.factors.get .eventLoss = true := by
    rw [result]
    exact (Routine.foldl (fun u h => offerStandalone_routine _ h u) _ _).grows.latched .eventLoss set
  have closed : Closed { s with asm := { s.asm with
      contexts := upd s.asm.contexts k fun _ => none, nextEvent := s.asm.nextEvent + 1, eventsLost := s.asm.eventsLost + 1 } } t :=
    (setFactor_closed .eventLoss 0 none _).trans (t := s.eventLost k) filed.closed
  have hist : t.hist = s.hist := by
    rw [filed.eq]
    exact booked.hist
  have completed : t.timer.eventsCompleted = s.timer.eventsCompleted := by
    have same : (s.eventLost k).timer.eventsCompleted = s.timer.eventsCompleted := congrArg IntervalTimer.eventsCompleted booked.timer
    rw [filed.eq]
    exact same
  have frame := closed.eq
  have noRoom : ¬ s.rq.events.length < 32 := Nat.not_lt.mpr full
  refine
    { contexts := by rw [frame]
      nextEvent := by rw [frame]
      counters := by rw [frame]; exact ⟨rfl, rfl, rfl⟩
      controller := by rw [frame]; exact ⟨rfl, rfl, rfl, rfl, rfl⟩
      others := by rw [frame]; exact ⟨rfl, rfl, rfl, rfl, rfl, rfl⟩
      history := by rw [hist]; exact ⟨rfl, rfl, rfl⟩
      queued := fun room => absurd room noRoom
      handed := fun room => absurd room noRoom
      shed := fun room => absurd room noRoom
      advanced := fun room => absurd room noRoom
      held := fun room => absurd room noRoom
      lost := fun _ => ⟨by rw [frame], by rw [frame], by rw [frame], completed, by rw [hist], latched⟩
      lostHits := fun _ low => ?_ }
  intro hits few
  obtain ⟨before, after⟩ := (joined low few).split
  rw [show (s.eventLost k).rq.hits = s.rq.hits from booked.hits] at before after
  exact ⟨before, after⟩

theorem complete_completed {s : State} {m1 m2 : Member} {p : PairEntry} (k : Fin 4) (c : Context)
    (pair : s.tables.pairOf m1.channel m2.channel = some p) : Completed s (complete k c m1 m2 s) k c m1 m2 p := by
  by_cases room : s.rq.events.length < 32
  · exact completed_of_room k c room pair
  · exact completed_of_full p k c (Nat.le_of_not_lt room)

/-! ## The completion test -/

theorem testComplete_waits {s : State} {k : Fin 4} {c : Context} (waits : ∃ n ∈ c.members, n.parked = none) :
    testComplete k c s = s.putContext k (some c) := by
  obtain ⟨n, member, isOpen⟩ := waits
  have notAll : ¬ c.members.all Member.closed = true := by
    rw [List.all_eq_true]
    intro all
    have closed := all n member
    unfold Member.closed at closed
    rw [isOpen] at closed
    cases closed
  unfold testComplete
  split
  · exact if_neg notAll
  · rfl

theorem testComplete_completes {s : State} {k : Fin 4} {c : Context} {m1 m2 : Member} {more : List Member}
    (members : c.members = m1 :: m2 :: more) (closed : ∀ n ∈ c.members, n.parked.isSome = true) :
    testComplete k c s = complete k c m1 m2 s := by
  have all : c.members.all Member.closed = true := List.all_eq_true.mpr closed
  unfold testComplete
  rw [members] at all ⊢
  exact if_pos all

end Sys2Proof.Machine
end

section
/-! Closures of members, dissolutions and window expiries, assembled (sections 5.1, 6.3 to 6.7). -/

namespace Sys2Proof.Machine

section closure
variable {s : State} {h : ClosedHit} {k : Fin 4} {c : Context} {before after : List Member} {m : Member}

/-- R83: a rejected hit counted. -/
def State.filtered (ch : Channel) (s : State) : State := s.modCounts ch fun k => { k with filtered := k.filtered + 1 }

theorem MemberClosure.rejects (closure : MemberClosure s h k c before m after) (noSegment : s.wave.find h.channel h.hitId = none) :
    rejectHit h s = removeMember k c h.channel h.hitId (s.filtered h.channel) := by
  have kept : freeSegmentOf h.channel h.hitId (s.filtered h.channel) = s.filtered h.channel :=
    freeSegmentOf_none (s := s.filtered h.channel) noSegment
  have memberOf : (s.filtered h.channel).asm.memberOf h.channel h.hitId = some k := closure.memberOf
  have used : (s.filtered h.channel).asm.contexts[k] = some c := closure.used
  unfold rejectHit
  simp only [show s.modCounts h.channel (fun k => { k with filtered := k.filtered + 1 }) = s.filtered h.channel from rfl, kept, memberOf,
    used]

/-- R102, R103: a rejected member that dissolves its context. -/
theorem MemberClosure.removes_dissolves (closure : MemberClosure s h k c before m after) (u : State)
    (ends : h.channel = c.first ∨ (c.settling = true ∧ (before ++ after).length ≤ 1)) :
    removeMember k c h.channel h.hitId u = dissolve k (before ++ after) u := by
  unfold removeMember
  rw [closure.removeIn_members]
  by_cases first : h.channel = c.first
  · exact if_pos first
  · obtain ⟨settling, few⟩ := ends.resolve_left first
    exact (if_neg first).trans ((if_pos settling).trans (if_pos few))

theorem MemberClosure.removes_collecting (closure : MemberClosure s h k c before m after) (u : State) (later : h.channel ≠ c.first)
    (collecting : c.settling = false) :
    removeMember k c h.channel h.hitId u = u.putContext k (some { c with members := before ++ after }) := by
  unfold removeMember
  rw [closure.removeIn_members]
  exact (if_neg later).trans (if_neg (by rw [collecting]; exact Bool.false_ne_true))

theorem MemberClosure.removes_tested (closure : MemberClosure s h k c before m after) (u : State) (later : h.channel ≠ c.first)
    (settling : c.settling = true) (more : 2 ≤ (before ++ after).length) :
    removeMember k c h.channel h.hitId u = testComplete k { c with members := before ++ after } u := by
  unfold removeMember
  rw [closure.removeIn_members]
  exact (if_neg later).trans ((if_pos settling).trans (if_neg (Nat.not_le.mpr more)))

end closure

/-- Settles O57: released openings, closures of members, and the dissolution of every context. -/
theorem openingsAreGuardedOrAssembled : Obligations.OpeningsAreGuardedOrAssembled := by
  refine ⟨?_, ?_, ?_⟩
  · intro s ch h isOpen admits paired member put marked
    obtain ⟨guarded, offered⟩ := judgeOpening_spec s ch h isOpen
    have admitted (c : Context) : c.admits s.tables ch h.arrival = true ↔ admits c := admits_iff
    have noPair : s.tables.hasPair ch = true ↔ paired := hasPair_iff
    refine ⟨guarded, fun unguarded => ?_⟩
    obtain ⟨joins, alone⟩ := offered unguarded
    refine ⟨fun k c used fits first => ?_, fun none => ?_⟩
    · exact joins k c used ((admitted c).mpr fits) fun j b usedB fitsB => first j b usedB ((admitted b).mp fitsB)
    · obtain ⟨stays, opens, lost⟩ := alone fun k c used => Bool.eq_false_iff.mpr (mt (admitted c).mp (none k c used))
      exact ⟨fun unpaired => stays (Bool.eq_false_iff.mpr (mt noPair.mp unpaired)),
        fun k hasPair free lowest => opens k (noPair.mpr hasPair) free lowest, fun hasPair full => lost (noPair.mpr hasPair) full⟩
  · intro s h k c before m after closure noSegment put judged forced parked left filtered
    have tested (u : State) (d : Context) : judged u (testComplete k d u) d :=
      ⟨fun waits => testComplete_waits waits, fun m1 m2 more p members closed pair => by
        rw [testComplete_completes members closed]
        exact complete_completed k d pair⟩
    refine ⟨fun passed => ⟨fun untested => ?_, fun settling unforced => ?_⟩, fun rejected => ⟨fun ends => ?_, fun later collecting => ?_,
      fun later settling more => ?_⟩⟩
    · rw [handOn_passed (segmentFillEnd_none noSegment) passed, closure.parks untested, segmentWait_none noSegment]
      rfl
    · rw [handOn_passed (segmentFillEnd_none noSegment) passed, closure.parks_tested settling unforced, segmentWait_none noSegment]
      exact tested s parked
    · rw [handOn_rejected (segmentFillEnd_none noSegment) rejected, closure.rejects noSegment, closure.removes_dissolves _ ends]
      exact dissolve_dissolved k left.members filtered
    · rw [handOn_rejected (segmentFillEnd_none noSegment) rejected, closure.rejects noSegment, closure.removes_collecting _ later collecting]
      rfl
    · rw [handOn_rejected (segmentFillEnd_none noSegment) rejected, closure.rejects noSegment,
        closure.removes_tested _ later settling more]
      exact tested filtered left
  · intro s turn
    have turns (k : Fin 4) (u : State) (same : u.asm.contexts[k] = s.asm.contexts[k]) : turn k u (dissolveTurn u k) := by
      refine ⟨fun c used => ?_, fun free => ?_⟩
      · rw [← same] at used
        unfold dissolveTurn
        rw [used]
        exact dissolve_dissolved k c.members u
      · rw [← same] at free
        unfold dissolveTurn
        rw [free]
    have spares {j k : Fin 4} (other : j ≠ k) (u : State) : (dissolveTurn u j).asm.contexts[k] = u.asm.contexts[k] := by
      rw [dissolveTurn_contexts, if_neg other]
    refine ⟨dissolveTurn s 0, dissolveTurn (dissolveTurn s 0) 1, dissolveTurn (dissolveTurn (dissolveTurn s 0) 1) 2,
      turns 0 s rfl, turns 1 _ (spares (by decide) s), turns 2 _ ?_, turns 3 _ ?_⟩
    · exact (spares (by decide) _).trans (spares (by decide) s)
    · exact (spares (by decide) _).trans ((spares (by decide) _).trans (spares (by decide) s))

/-! ## Windows -/

/-- R37, R3: the drain test at the start of a tick of a LOCKED synthesizer. -/
theorem drainAtTickStart_tested {s : State} (locked : s.synth = .locked) : DrainTested s (drainAtTickStart s) := by
  refine ⟨fun goesOn => ?_, fun acq drained => ?_, fun acq drained => ?_⟩
  · have same : checkDrain s = s := goesOn.elim checkDrain_elsewhere checkDrain_waits
    unfold drainAtTickStart
    simp only [same]
    exact if_pos (ticking_iff.mpr locked)
  · have reached : checkDrain s = setFactor .stateReached 0 (some 2) { s with acq := .standby, timer := s.timerAtStart } := by
      rw [checkDrain_reaches acq drained]
      exact enterStandby_eq s
    have booked := setFactor_booked .stateReached 0 (some 2) ({ s with acq := .standby, timer := s.timerAtStart } : State)
    unfold drainAtTickStart
    simp only [reached]
    exact if_pos (ticking_iff.mpr (booked.synth.trans locked))
  · have reached : checkDrain s = setFactor .stateReached 0 (some 0) s.wentOff := by
      rw [checkDrain_reaches acq drained, reachDrainTarget_off drained (by rw [acq]; exact fun _ _ => Acq.noConfusion)]
    have booked := setFactor_booked .stateReached 0 (some 0) s.wentOff
    intro u
    unfold drainAtTickStart
    simp only [reached]
    refine (if_neg fun ticking => ?_).trans ?_
    · have stopped : u.synth = .stopped := booked.synth
      rw [ticking_iff.mp ticking] at stopped
      cases stopped
    · have tt : u.tt = s.tt := booked.tt
      have guard : u.guard = s.guard := by rw [show u = _ from booked.eq]; rfl
      show lastTick u = _
      unfold lastTick advanceTime
      rw [tt, guard]
      rfl

theorem eq_singleton {l : List (Fin 4 × Context)} {a : Fin 4 × Context} (order : l.Pairwise fun x y => x.1 < y.1) (member : a ∈ l)
    (only : ∀ x ∈ l, x = a) : l = [a] := by
  cases l with
  | nil => cases member
  | cons x l =>
    obtain rfl := only x List.mem_cons_self
    cases l with
    | nil => rfl
    | cons y l =>
      have same := only y (List.mem_cons_of_mem _ List.mem_cons_self)
      have less := (List.pairwise_cons.mp order).1 y List.mem_cons_self
      rw [same] at less
      exact absurd less (lt_irrefl _)

/-- R99: the window of a COLLECTING context has ended. -/
def Context.Ended (tick : TestTime) (c : Context) : Prop :=
  c.settling = false ∧ ticksBetween c.windowEnd c.openTime < ticksBetween tick c.openTime

theorem windowEnded_iff {c : Context} {tick : TestTime} : c.windowEnded tick = true ↔ c.Ended tick := by
  unfold Context.windowEnded Context.Ended
  rw [Bool.and_eq_true, Bool.not_eq_true', decide_eq_true_iff]

theorem windowDue_iff {s : State} : s.windowDue = true ↔
    s.synth = .locked ∧ ∃ (k : Fin 4) (c : Context), s.asm.contexts[k] = some c ∧ c.Ended s.tt := by
  unfold State.windowDue
  rw [Bool.and_eq_true, ticking_iff, Bool.not_eq_true', List.isEmpty_eq_false_iff_exists_mem]
  refine and_congr_right fun _ => ⟨fun ⟨⟨k, c⟩, member⟩ => ?_, fun ⟨k, c, used, ended⟩ => ⟨(k, c), ?_⟩⟩
  · obtain ⟨used, ended⟩ := mem_select_iff.mp member
    exact ⟨k, c, used, windowEnded_iff.mp ended⟩
  · exact mem_select_iff.mpr ⟨used, windowEnded_iff.mpr ended⟩

section window
variable {s : State} {k : Fin 4} {c : Context}

/-- R99: one window that has ended makes its context SETTLING, and the context is judged. -/
theorem expireWindows_one (used : s.asm.contexts[k] = some c) (ended : c.Ended s.tt)
    (only : ∀ (j : Fin 4) (b : Context), s.asm.contexts[j] = some b → b.Ended s.tt → j = k) :
    expireWindows s = judgeExpired k (s.putContext k (some { c with settling := true })) := by
  have list : s.asm.select (fun c => c.windowEnded s.tt) = [(k, c)] := by
    refine eq_singleton (select_ascends _ _) (mem_select_iff.mpr ⟨used, windowEnded_iff.mpr ended⟩) fun ⟨j, b⟩ member => ?_
    obtain ⟨usedB, endedB⟩ := mem_select_iff.mp member
    obtain rfl := only j b usedB (windowEnded_iff.mp endedB)
    rw [used] at usedB
    rw [Option.some.inj usedB]
  unfold expireWindows
  rw [list]
  rfl

theorem putContext_putContext (k : Fin 4) (o o' : Option Context) (s : State) : (s.putContext k o).putContext k o' = s.putContext k o' := by
  unfold State.putContext State.modAsm
  simp only [upd_upd]

theorem judgeExpired_settling (c : Context) (k : Fin 4) (s : State) :
    judgeExpired k (s.putContext k (some c)) =
      if c.members.length ≤ 1 then release k c (s.putContext k (some c)) else testComplete k c (s.putContext k (some c)) := by
  have used : (s.putContext k (some c)).asm.contexts[k] = some c := upd_same _ _ _
  unfold judgeExpired
  rw [used]

theorem release_one {m : Member} (member : c.members = [m]) (o : Option Context) :
    release k c (s.putContext k o) =
      releaseMember m { s with asm := { s.asm with
        contexts := upd s.asm.contexts k fun _ => none, contextsReleased := s.asm.contextsReleased + 1 } } := by
  unfold release
  rw [putContext_putContext, member]
  rfl

theorem complete_settling (m1 m2 : Member) (o : Option Context) :
    complete k { c with settling := true } m1 m2 (s.putContext k o) = complete k c m1 m2 s := by
  unfold complete
  rw [putContext_putContext]
  rfl

/-- R99, R3, R37: the command at one window that has ended. -/
theorem exec_windowExpiry_one {t : State} (rest : s.AtRest) (locked : s.synth = .locked) (used : s.asm.contexts[k] = some c)
    (ended : c.Ended s.tt) (expired : expireWindows s = t) :
    ∃ u, exec .windowExpiry s = .next u ∧ DrainTested t u := by
  have due : s.windowDue = true := windowDue_iff.mpr ⟨locked, k, c, used, ended⟩
  have routine := expireWindows_routine s
  rw [expired] at routine
  have tested := drainAtTickStart_tested (routine.synth.trans locked)
  have effect : expireDueWindows s = drainAtTickStart t := by unfold expireDueWindows; rw [expired]
  have unsent : Unsent s (expireDueWindows s) := by
    rw [effect]
    refine routine.unsent.trans ?_
    unfold drainAtTickStart
    simp only
    split
    · exact checkDrain_unsent t
    · exact (checkDrain_unsent t).trans (.of_same rfl rfl)
  refine ⟨drainAtTickStart t, congrArg Host.Outcome.next ((takeDue_atRest due rest unsent).trans effect), tested⟩

end window

/-- Settles O46: the one context is released or SETTLING, and the drain is tested. -/
theorem windowExpiryJudges : Obligations.WindowExpiryJudges := by
  intro s ended
  refine ⟨fun early => ?_, ?_⟩
  · refine congrArg Host.Outcome.next (takeDue_notDue fun due => ?_)
    obtain ⟨locked, k, c, used, past⟩ := windowDue_iff.mp due
    exact early.elim (fun other => other locked) fun none => none k c used past
  · intro k c rest locked used past only released result
    have expired {t : State} (judged : judgeExpired k (s.putContext k (some { c with settling := true })) = t) : result t :=
      exec_windowExpiry_one rest locked used past ((expireWindows_one used past only).trans judged)
    refine ⟨fun m member => ⟨fun h parked => expired ?_, fun isOpen noSegment => expired ?_⟩, fun more waits => expired ?_⟩
    · rw [judgeExpired_settling, if_pos (by rw [member]; exact le_rfl), release_one (c := { c with settling := true }) member]
      unfold releaseMember
      rw [parked]
      rfl
    · rw [judgeExpired_settling, if_pos (by rw [member]; exact le_rfl), release_one (c := { c with settling := true }) member]
      unfold releaseMember
      rw [isOpen]
      exact segmentLeavesContext_none (s := released) noSegment
    · rw [judgeExpired_settling, if_neg (Nat.not_le.mpr more), testComplete_waits (c := { c with settling := true }) waits, putContext_putContext]
      rfl

/-- Settles O47: the one context completes, and the drain is tested. -/
theorem windowExpiryCompletes : Obligations.WindowExpiryCompletes := by
  intro s k c m1 m2 more p rest locked used collecting past only members closed pair
  have one := expireWindows_one used ⟨collecting, past⟩ fun j b usedB ⟨collectingB, pastB⟩ => only j b usedB collectingB pastB
  have completes : expireWindows s = complete k c m1 m2 s := by
    rw [one, judgeExpired_settling, if_neg (by rw [members]; simp),
      testComplete_completes (c := { c with settling := true }) members closed, complete_settling]
  obtain ⟨u, ran, tested⟩ := exec_windowExpiry_one rest locked used ⟨collecting, past⟩ completes
  exact ⟨complete k c m1 m2 s, u, ran, tested, complete_completed k c pair⟩

end Sys2Proof.Machine
end

section
/-! What the way of a forced closure and a dissolution neither read nor write (sections 2.4, 5.1, 6.7): the rest of the part stands beside
them as it is. -/

namespace Sys2Proof.Machine

/-! ## The part beside the work -/

/-- A state that bears the records, segments, contexts, conditions and interval figures of another, with its tables and its
clocks. -/
def State.bearing (s w : State) : State :=
  { s with
    tables := w.tables
    tt := w.tt
    now := w.now
    cond := w.cond
    wave := w.wave
    asm := { s.asm with contexts := w.asm.contexts, eventsDissolved := w.asm.eventsDissolved }
    rq := { s.rq with hits := w.rq.hits, notices := w.rq.notices, shed := w.rq.shed, counts := w.rq.counts }
    timer := { s.timer with figures := w.timer.figures } }

/-- Work that neither reads nor writes anything beside what a state bears. -/
def Carried (f : State → State) : Prop := ∀ s w : State, f (s.bearing w) = s.bearing (f w)

theorem Carried.comp {f g : State → State} (hf : Carried f) (hg : Carried g) : Carried fun s => f (g s) := fun s w =>
  (congrArg f (hg s w)).trans (hf s (g w))

theorem Carried.keeps {f : State → State} (h : Carried f) (s : State) : f s = s.bearing (f s) := h s s

theorem Carried.foldl {α : Type} {f : State → α → State} {as : List α} (h : ∀ a ∈ as, Carried fun s => f s a) :
    Carried fun s => as.foldl f s := by
  induction as with
  | nil => exact fun _ _ => rfl
  | cons a as ih => exact (ih fun b later => h b (.tail _ later)).comp (h a (.head _))

/-! ## Settings, segments and records -/

theorem find_held {w : WaveStore} {ch : Channel} {id : Counter} {i : Fin 64} (found : w.find ch id = some i) :
    ∃ g, w.segments[i] = some g := by
  have holds := List.find?_some found
  cases held : w.segments[i] with
  | none => rw [held] at holds; cases holds
  | some g => exact ⟨g, rfl⟩

section records
variable (ch : Channel) (id : Counter) (c : ClosedHit) (t : EventTag)

theorem carried_setFactor (f : Factor) (index : Nat) (reached : Option Nat) : Carried (setFactor f index reached) := by
  intro s w
  simp only [setFactor, offerNotice, apply_ite (State.bearing s)]
  rfl

theorem carried_evalShed : Carried evalShed := by
  intro s w
  by_cases same : shedStep w.rq.shed w.rq.hits.length w.wave.freeBlocks = w.rq.shed
  · rw [evalShed_stays same, evalShed_stays (s := s.bearing w) same]
  · rw [evalShed_moves rfl same, evalShed_moves (s := s.bearing w) rfl same]
    exact carried_setFactor _ _ _ s { w with rq := { w.rq with shed := _ } }

theorem carried_modWave (f : WaveStore → WaveStore) : Carried fun s => s.modWave f := fun _ _ => rfl

theorem bearing_modCounts (f : ChannelCounts → ChannelCounts) (s w : State) :
    (s.bearing w).modCounts ch f = s.bearing (w.modCounts ch f) := rfl

theorem carried_modCounts (f : ChannelCounts → ChannelCounts) : Carried fun s => s.modCounts ch f := bearing_modCounts ch f

theorem carried_modFigures (f : IntervalFigures → IntervalFigures) : Carried fun s => s.modFigures ch f := fun _ _ => rfl

theorem carried_freeSegment (i : Fin 64) : Carried (freeSegment i) := carried_evalShed.comp (carried_modWave _)

theorem carried_freeSegmentOf : Carried (freeSegmentOf ch id) := by
  intro s w
  cases found : w.wave.find ch id with
  | none => rw [freeSegmentOf_none found, freeSegmentOf_none (s := s.bearing w) found]
  | some i =>
    rw [freeSegmentOf_some found, freeSegmentOf_some (s := s.bearing w) found]
    exact carried_freeSegment i s w

theorem carried_segmentFillEnd : Carried (segmentFillEnd ch id) := by
  intro s w
  cases found : w.wave.find ch id with
  | none => rw [segmentFillEnd_none found, segmentFillEnd_none (s := s.bearing w) found]
  | some i =>
    obtain ⟨g, held⟩ := find_held found
    by_cases fits : g.blocks.length ≤ blocksFor g.samples.length
    · rw [segmentFillEnd_fits found held fits, segmentFillEnd_fits (s := s.bearing w) found held fits]
    · have more := Nat.lt_of_not_le fits
      rw [segmentFillEnd_returns found held more, segmentFillEnd_returns (s := s.bearing w) found held more]
      exact carried_evalShed.comp (carried_modWave _) s w

theorem carried_segmentWait : Carried (segmentWait ch id) := by
  intro s w
  cases found : w.wave.find ch id with
  | none => rw [segmentWait_none found, segmentWait_none (s := s.bearing w) found]
  | some i =>
    obtain ⟨g, held⟩ := find_held found
    rw [segmentWait_some found held, segmentWait_some (s := s.bearing w) found held]
    rfl

theorem carried_segmentLeavesContext : Carried (segmentLeavesContext ch id) := by
  intro s w
  cases found : w.wave.find ch id with
  | none => rw [segmentLeavesContext_none found, segmentLeavesContext_none (s := s.bearing w) found]
  | some i =>
    obtain ⟨g, held⟩ := find_held found
    rw [segmentLeavesContext_some found held, segmentLeavesContext_some (s := s.bearing w) found held, carried_freeSegment]
    split <;> rfl

theorem carried_segmentAdmitted (p : Path) (s w : State) :
    segmentAdmitted p ch id (s.bearing w) = (s.bearing (segmentAdmitted p ch id w).1, (segmentAdmitted p ch id w).2) := by
  cases found : w.wave.find ch id with
  | none => rw [segmentAdmitted_none found, segmentAdmitted_none (s := s.bearing w) found]
  | some i =>
    obtain ⟨g, held⟩ := find_held found
    rw [segmentAdmitted_some found held, segmentAdmitted_some (s := s.bearing w) found held, carried_freeSegment]
    split <;> rfl

theorem carried_shedRecord : Carried (shedRecord c) := (carried_freeSegmentOf c.channel c.hitId).comp (carried_modCounts c.channel _)

theorem carried_loseRecord : Carried (loseRecord c) :=
  (carried_setFactor _ _ _).comp ((carried_freeSegmentOf c.channel c.hitId).comp
    ((carried_modFigures c.channel _).comp (carried_modCounts c.channel _)))

theorem carried_admitRecord (p : Path) : Carried (admitRecord p c t) := by
  intro s w
  unfold admitRecord
  simp only
  rw [bearing_modCounts, carried_segmentAdmitted]
  generalize segmentAdmitted p c.channel c.hitId _ = r
  exact carried_evalShed s ((enqueueHit (recordOf c t (gapField w.rq.counts[c.channel].gap) r.2) r.1).modCounts c.channel
    fun k => { k with queued := k.queued + 1 })

theorem carried_offerStandalone : Carried (offerStandalone t c) := by
  intro s w
  unfold offerStandalone
  rw [carried_shedRecord, carried_loseRecord, carried_admitRecord, apply_ite (State.bearing s), apply_ite (State.bearing s)]
  rfl

/-- R105, R114: a member that an entry to OFF closes is parked, and no completion is tested. -/
theorem carried_parkMember (forced : c.cause = .aborted ∨ c.cause = .clockFault) (k : Fin 4) (x : Context) :
    Carried (parkMember k x c) := by
  intro s w
  unfold parkMember
  rw [carried_segmentWait]
  rcases forced with cause | cause <;> rw [cause] <;> rfl

theorem carried_passHit (forced : c.cause = .aborted ∨ c.cause = .clockFault) : Carried (passHit c) := by
  intro s w
  unfold passHit
  rw [show (s.bearing w).asm.memberOf c.channel c.hitId = w.asm.memberOf c.channel c.hitId from rfl,
    show (s.bearing w).asm.contexts = w.asm.contexts from rfl]
  split
  · exact carried_offerStandalone c _ s w
  · split
    · exact carried_parkMember c forced _ _ s w
    · exact carried_offerStandalone c _ s w

/-- R50, R55, R79, R114: a hit that an entry to OFF closes. -/
theorem carried_handOn (forced : c.cause = .aborted ∨ c.cause = .clockFault) : Carried (handOn c) := by
  have passed (u : State) : filterRejects u.tables.filter c = false := by
    unfold filterRejects
    rcases forced with cause | cause <;> rw [cause] <;> rfl
  intro s w
  unfold handOn
  simp only [carried_segmentFillEnd c.channel c.hitId s w, passed, Bool.false_eq_true, if_false]
  exact carried_passHit c forced s _

end records

/-- R55: the closed hits of an entry to OFF, one after another. -/
theorem carried_forcedClosures {cause : Closure} (forced : cause = .aborted ∨ cause = .clockFault) (s : State) :
    Carried fun u => (s.forcedClosures cause).foldl (fun u c => handOn c u) u := by
  refine Carried.foldl fun c mem => carried_handOn c ?_
  obtain ⟨ch, -, made⟩ := List.mem_filterMap.mp mem
  obtain ⟨h, -, rfl⟩ := Option.map_eq_some_iff.mp made
  exact forced

/-! ## Dissolutions: beside the work they mark open hits -/

/-- Work that writes nothing but detectors beside what a state bears, and reads nothing there that decides the work. -/
def CarriedButMarks (f : State → State) : Prop := ∀ s w : State, ∃ d, f (s.bearing w) = State.bearing { s with dets := d } (f w)

theorem Carried.butMarks {f : State → State} (h : Carried f) : CarriedButMarks f := fun s w => ⟨s.dets, h s w⟩

theorem CarriedButMarks.comp {f g : State → State} (hf : CarriedButMarks f) (hg : CarriedButMarks g) :
    CarriedButMarks fun s => f (g s) := by
  intro s w
  obtain ⟨d, inner⟩ := hg s w
  obtain ⟨d', outer⟩ := hf { s with dets := d } (g w)
  exact ⟨d', (congrArg f inner).trans outer⟩

theorem CarriedButMarks.foldl {α : Type} {f : State → α → State} (h : ∀ a, CarriedButMarks fun s => f s a) (as : List α) :
    CarriedButMarks fun s => as.foldl f s := by
  induction as with
  | nil => exact fun s _ => ⟨s.dets, rfl⟩
  | cons a as ih => exact ih.comp (h a)

theorem CarriedButMarks.keeps {f : State → State} (h : CarriedButMarks f) (s : State) :
    ∃ d, f s = State.bearing { s with dets := d } (f s) := h s s

theorem carried_dissolveOpen (m : Member) : CarriedButMarks (dissolveOpen m) := by
  cases isParked : m.parked with
  | some c =>
    have stays (u : State) : dissolveOpen m u = u := by unfold dissolveOpen; rw [isParked]
    exact fun s w => ⟨s.dets, by rw [stays, stays]⟩
  | none =>
    have leaves : dissolveOpen m = fun u => segmentLeavesContext m.channel m.hitId (markOrphaned m.channel m.hitId u) := by
      funext u
      unfold dissolveOpen
      rw [isParked]
    rw [leaves]
    exact (carried_segmentLeavesContext _ _).butMarks.comp fun s w => ⟨_, rfl⟩

theorem carried_dissolve (k : Fin 4) (members : List Member) : CarriedButMarks (dissolve k members) := by
  have freed : Carried fun s => if members.isEmpty then s.putContext k none
      else (s.putContext k none).modAsm fun a => { a with eventsDissolved := a.eventsDissolved + 1 } := by
    intro s w
    split <;> rfl
  exact (CarriedButMarks.foldl carried_dissolveOpen members).comp
    ((Carried.foldl fun c _ => carried_offerStandalone (orphan c) EventTag.none).butMarks.comp freed.butMarks)

/-- R115: the dissolution of every context in use. -/
theorem carried_dissolveAll : CarriedButMarks dissolveAll := by
  refine CarriedButMarks.foldl (f := dissolveTurn) (fun k s w => ?_) contextNumbers
  unfold dissolveTurn
  simp only
  rw [show (s.bearing w).asm.contexts = w.asm.contexts from rfl]
  split
  · exact carried_dissolve k _ s w
  · exact ⟨s.dets, rfl⟩
/-- R115: where no hit is open, the dissolutions mark none. -/
theorem dissolveAll_bearing {s : State} (closed : ∀ (ch : Channel) (h : OpenHit), s.dets[ch].machine ≠ .inHit h) (w : State) :
    dissolveAll (s.bearing w) = s.bearing (dissolveAll w) := by
  obtain ⟨d, dissolved⟩ := carried_dissolveAll s w
  have same : d = s.dets := table_ext fun ch => by
    have marked := (dissolveAll_marks (s.bearing w)).det (ch := ch) (closed ch)
    rw [dissolved] at marked
    exact marked
  rw [dissolved, same]

end Sys2Proof.Machine
end

section
/-! An entry to OFF with reason "abort" or "clock" (sections 2.4, 3.3, 3.4, 6.7): every open hit closes and is handed on, every context
dissolves, and the clock stops. -/

namespace Sys2Proof.Machine

/-! ## One detector -/

/-- R55: the reasons with which an entry to OFF closes hits and dissolves contexts. -/
def OffReason.Forces (r : OffReason) : Prop := r = .abort ∨ r = .clock

theorem OffReason.Forces.cause {r : OffReason} (forces : r.Forces) : r.cause = .aborted ∨ r.cause = .clockFault := by
  rcases forces with rfl | rfl
  · exact .inl rfl
  · exact .inr rfl

theorem OffReason.Forces.dissolves {r : OffReason} (forces : r.Forces) (s : State) : r.dissolves s = dissolveAll s := by
  rcases forces with rfl | rfl <;> rfl

/-- R55: what an entry to OFF hands on of one channel. -/
def State.forcedOne (ch : Channel) (cause : Closure) (d : Detector) (s : State) : State :=
  match d.open? with
  | some h => handOn (closedHitOf ch d.active s.rowTT cause h) s
  | none => s

/-- R10, R58: a lane that an applied entry moves, in OFF at the latest, is the same lane once it has entered OFF. -/
def SameOff (l l' : Vector Lane 16) : Prop := ∀ j : Channel, l'[j].toOff = l[j].toOff

theorem sameOff_upd {l : Vector Lane 16} {ch : Channel} {g : Lane → Lane} (same : (g l[ch]).toOff = l[ch].toOff) :
    SameOff l (upd l ch g) := by
  intro j
  rw [upd_get]
  split
  · next here => subst here; exact same
  · rfl

theorem forcedOff_closed {d : Detector} (closed : d.open? = none) : d.forcedOff .off = d.stoodDown := by
  have notOpen := notInHit_of_open? closed
  cases waits : d.waiting with
  | none =>
    rw [Detector.stoodDown_none notOpen waits]
    unfold Detector.forcedOff
    cases isOpen : d.machine with
    | inHit h => exact absurd isOpen (notOpen h)
    | idle | rearmHold | blocked => simp only [waits]
  | some e =>
    rw [Detector.stoodDown_some notOpen waits]
    unfold Detector.forcedOff
    cases isOpen : d.machine with
    | inHit h => exact absurd isOpen (notOpen h)
    | idle | rearmHold | blocked => simp only [waits]

/-- R50, R52, R55: a detector whose hit an entry to OFF closed, before a waiting entry is applied. -/
def Detector.forcedShut (d : Detector) : Detector := { d with machine := .blocked, rearm := d.active.rht, contRun := 0 }

theorem forcedOff_settled {d : Detector} {h : OpenHit} (isOpen : d.machine = .inHit h) (settled : d.waiting = none) :
    d.forcedOff .off = d.forcedShut := by
  unfold Detector.forcedOff
  simp only [isOpen, settled]
  rw [← settled]
  rfl

theorem forcedOff_waiting {d : Detector} {h : OpenHit} {e : ChannelEntry} (isOpen : d.machine = .inHit h) (waits : d.waiting = some e) :
    d.forcedOff .off = Detector.given e d.forcedShut := by
  unfold Detector.forcedOff
  simp only [isOpen, waits]
  rfl

theorem inHit_of_open? {d : Detector} {h : OpenHit} (isOpen : d.open? = some h) : d.machine = .inHit h := by
  unfold Detector.open? at isOpen
  split at isOpen
  · next machine => rw [machine, Option.some.inj isOpen]
  all_goals cases isOpen

/-- R57, R58: the entry that waited for an open hit is applied at the closure that an entry to OFF makes. -/
theorem applyWaiting_forced {ch : Channel} {u : State} {h : OpenHit} (isOpen : u.dets[ch].machine = .inHit h) (off : u.acq = .off) :
    ∃ l', SameOff u.lanes l' ∧ applyWaiting ch (u.modDet ch Detector.forcedShut) =
      u.reskin (upd u.dets ch fun d => d.forcedOff .off) l' .off := by
  have shut : (u.modDet ch Detector.forcedShut).dets[ch] = u.dets[ch].forcedShut := upd_same _ _ _
  cases waits : u.dets[ch].waiting with
  | none =>
    refine ⟨u.lanes, fun _ => rfl, (applyWaiting_none (by rw [shut]; exact waits)).trans ?_⟩
    unfold State.modDet State.reskin
    rw [← off, upd_congr u.dets ch (off ▸ (forcedOff_settled isOpen waits).symm)]
  | some e =>
    have applied := applyWaiting_blocked (s := u.modDet ch Detector.forcedShut) (by rw [shut]; exact waits) (by rw [shut]; rfl)
    refine ⟨(applyWaiting ch (u.modDet ch Detector.forcedShut)).lanes, ?_, ?_⟩
    · rw [applied]
      refine sameOff_upd ?_
      split
      · split <;> rfl
      · rfl
    · rw [applied]
      simp only [State.modDet, State.reskin]
      rw [upd_upd, upd_congr u.dets ch (g := fun d => d.forcedOff .off) (forcedOff_waiting isOpen waits).symm, ← off]

/-- R48 to R52: a closure of an entry to OFF, before a waiting entry is applied. -/
theorem closeHit_forced {r : OffReason} (forces : r.Forces) {ch : Channel} {s : State} {h : OpenHit} (isOpen : s.dets[ch].machine = .inHit h) :
    closeHit ch s.rowTT r.cause s =
      applyWaiting ch ((handOn (closedHitOf ch s.dets[ch].active s.rowTT r.cause h) s).modDet ch Detector.forcedShut) := by
  generalize hit : closedHitOf ch s.dets[ch].active s.rowTT r.cause h = c
  have free : SkinFree (handOn c) := skinFree_handOn c (by subst hit; exact forces.cause)
  have rearms : r.cause.rearms s.acq = false := by rcases forces with rfl | rfl <;> rfl
  have run (u : State) : continuousRun ch r.cause u = u.withRun ch 0 := by rcases forces with rfl | rfl <;> rfl
  unfold closeHit
  rw [isOpen]
  simp only [hit, rearms, run, Bool.false_eq_true, if_false]
  rw [free.modDet]
  unfold State.withRun State.modDet
  rw [upd_upd]
  rfl

/-- R28, step 2, R53, R55, R57: one detector at an entry to OFF for an abort or a loss of lock. -/
theorem detectorOff_forced {r : OffReason} (forces : r.Forces) (ch : Channel) (w : State) (d : Vector Detector 16) (l : Vector Lane 16) :
    ∃ l', SameOff l l' ∧ detectorOff r ch (w.reskin d l .off) =
      (w.forcedOne ch r.cause d[ch]).reskin (upd d ch fun d => d.forcedOff .off) l' .off := by
  cases isOpen : d[ch].open? with
  | none =>
    have off : detectorOff r ch (w.reskin d l .off) = blockDetector ch (w.reskin d l .off) := by
      unfold detectorOff
      cases machine : (w.reskin d l .off).dets[ch].machine with
      | inHit h => exact absurd machine (notInHit_of_open? isOpen h)
      | idle | rearmHold | blocked => rfl
    refine ⟨upd l ch (Lane.followWaiting d[ch] .off w.ticking), sameOff_upd (followWaiting_toOff _ _ _ _), ?_⟩
    rw [off, blockDetector_eq]
    unfold State.forcedOne
    rw [isOpen, upd_congr d ch (forcedOff_closed isOpen)]
    rfl
  | some h =>
    have inHit : (w.reskin d l .off).dets[ch].machine = .inHit h := inHit_of_open? isOpen
    have off : detectorOff r ch (w.reskin d l .off) = closeHit ch w.rowTT r.cause (w.reskin d l .off) := by
      unfold detectorOff
      rw [inHit]
      rfl
    have one : w.forcedOne ch r.cause d[ch] = handOn (closedHitOf ch d[ch].active w.rowTT r.cause h) w := by
      unfold State.forcedOne
      rw [isOpen]
    have handed := (skinFree_handOn (closedHitOf ch d[ch].active w.rowTT r.cause h) forces.cause) d l .off w
    rw [off, one]
    obtain ⟨l', same, applied⟩ := applyWaiting_forced (u := (handOn (closedHitOf ch d[ch].active w.rowTT r.cause h) w).reskin d l .off)
      inHit rfl
    refine ⟨l', same, (closeHit_forced forces inHit).trans ?_⟩
    refine .trans ?_ applied
    exact congrArg (fun u => applyWaiting ch (State.modDet u ch Detector.forcedShut)) handed

/-! ## All detectors, in ascending channel number -/

theorem SameOff.trans {l l' l'' : Vector Lane 16} (h : SameOff l l') (k : SameOff l' l'') : SameOff l l'' := fun j => (k j).trans (h j)

theorem SameOff.toOff {l l' : Vector Lane 16} (h : SameOff l l') :
    (tabulate fun ch => l'[ch].toOff) = tabulate fun ch => l[ch].toOff :=
  table_ext fun ch => by rw [tabulate_get, tabulate_get, h ch]

/-- R50, R55: the closed hits of some channels' open hits. -/
def forcedHits (chs : List Channel) (d : Vector Detector 16) (row : TestTime) (cause : Closure) : List ClosedHit :=
  chs.filterMap fun ch => d[ch].open?.map (closedHitOf ch d[ch].active row cause)

theorem forcedOne_rowTT (ch : Channel) (cause : Closure) (d : Detector) (w : State) : (w.forcedOne ch cause d).rowTT = w.rowTT := by
  unfold State.forcedOne
  split
  · exact congrArg Fixed.rowTT (handOn_routine _ w).fixed
  · rfl

theorem forcedHits_cons (ch : Channel) (chs : List Channel) (d : Vector Detector 16) (cause : Closure) (w : State) :
    (forcedHits (ch :: chs) d w.rowTT cause).foldl (fun u c => handOn c u) w =
      (forcedHits chs d w.rowTT cause).foldl (fun u c => handOn c u) (w.forcedOne ch cause d[ch]) := by
  unfold forcedHits State.forcedOne
  rw [List.filterMap_cons]
  cases d[ch].open? <;> rfl

/-- R28, step 2: the detectors of different channels at an entry to OFF for an abort or a loss of lock. -/
theorem detectorsOff_forced {r : OffReason} (forces : r.Forces) (chs : List Channel) (distinct : chs.Nodup) (w : State)
    (d : Vector Detector 16) (l : Vector Lane 16) :
    ∃ l', SameOff l l' ∧ chs.foldl (fun s ch => detectorOff r ch s) (w.reskin d l .off) =
      ((forcedHits chs d w.rowTT r.cause).foldl (fun u c => handOn c u) w).reskin
        (tabulate fun ch => if ch ∈ chs then d[ch].forcedOff .off else d[ch]) l' .off := by
  induction chs generalizing w d l with
  | nil =>
    have same : (tabulate fun ch => if ch ∈ ([] : List Channel) then d[ch].forcedOff .off else d[ch]) = d :=
      table_ext fun j => by rw [tabulate_get, if_neg List.not_mem_nil]
    exact ⟨l, fun _ => rfl, by rw [same]; rfl⟩
  | cons ch chs ih =>
    obtain ⟨new, distinct⟩ := List.nodup_cons.mp distinct
    obtain ⟨l', first, turned⟩ := detectorOff_forced forces ch w d l
    obtain ⟨l'', rest, folded⟩ := ih distinct (w.forcedOne ch r.cause d[ch]) (upd d ch fun d => d.forcedOff .off) l'
    have others : forcedHits chs (upd d ch fun d => d.forcedOff .off) w.rowTT r.cause = forcedHits chs d w.rowTT r.cause :=
      List.filterMap_congr fun j later => by rw [upd_other d ch j _ (by rintro rfl; exact new later)]
    have dets : (tabulate fun j => if j ∈ chs then (upd d ch fun d => d.forcedOff .off)[j].forcedOff .off
        else (upd d ch fun d => d.forcedOff .off)[j]) = tabulate fun j => if j ∈ ch :: chs then d[j].forcedOff .off else d[j] := by
      refine table_ext fun j => ?_
      rw [tabulate_get, tabulate_get]
      by_cases here : ch = j
      · subst here
        rw [if_neg new, if_pos (.head _), upd_same]
      · rw [upd_other _ _ _ _ here]
        exact if_congr ⟨.tail _, fun mem => (List.mem_cons.mp mem).resolve_left (Ne.symm here)⟩ rfl rfl
    refine ⟨l'', first.trans rest, ?_⟩
    rw [forcedHits_cons, List.foldl_cons, turned, folded, dets, forcedOne_rowTT, others]

/-! ## The entry to OFF -/

/-- R33: a detector at the start of an entry to OFF. -/
def Detector.leftFrom (a : Acq) (d : Detector) : Detector :=
  match a with
  | .learning _ _ => d.dropLearning
  | .off | .starting _ _ | .standby | .armed | .draining _ => d

theorem leaveForOff_eq (s : State) : leaveForOff s = s.reskin (tabulate fun ch => s.dets[ch].leftFrom s.acq) s.lanes .off := by
  have same : (tabulate fun ch => s.dets[ch]) = s.dets := table_ext fun ch => tabulate_get _ ch
  unfold leaveForOff Detector.leftFrom State.reskin
  cases s.acq with
  | learning n p => rfl
  | off | starting _ _ | standby | armed | draining _ => simp only [same]

theorem leftFrom_forcedOff (a : Acq) (d : Detector) : (d.leftFrom a).forcedOff .off = d.forcedOff a := by
  cases a with
  | learning n p =>
    obtain ⟨m, _, _, _, waits, _⟩ := d
    cases m <;> cases waits <;> rfl
  | off | starting _ _ | standby | armed | draining _ => rfl

theorem forcedHits_leftFrom (s : State) (cause : Closure) :
    forcedHits channels (tabulate fun ch => s.dets[ch].leftFrom s.acq) s.rowTT cause = s.forcedClosures cause := by
  refine List.filterMap_congr fun ch _ => ?_
  rw [tabulate_get]
  cases s.acq <;> rfl

/-- R10, R28, R33, R55: the part after an entry to OFF with reason "abort" or "clock", beside what its closures and dissolutions write. -/
def State.forcedDown (s : State) : State :=
  { s with
    acq := .off
    synth := .stopped
    dets := tabulate fun ch => s.dets[ch].forcedOff s.acq
    lanes := tabulate fun ch => s.lanes[ch].toOff
    pl := if s.synth = .locked then { s.pl with state := .syncing, slotTicks := 0, slotFilled := false, missingRun := 0 }
          else s.pl
    timer := { s.timer with period := none, ticks := 0 } }

theorem forcedOff_machine (a : Acq) (d : Detector) : (d.forcedOff a).machine = .blocked := by cases a <;> rfl

/-- R27, R28, R35: every open hit is handed on, then every context dissolves. -/
theorem enterOff_forced {r : OffReason} (forces : r.Forces) (s : State) :
    enterOff r s = s.forcedDown.bearing (dissolveAll ((s.forcedClosures r.cause).foldl (fun u c => handOn c u) s)) := by
  obtain ⟨l', lanes, folded⟩ := detectorsOff_forced forces channels channels_nodup s (tabulate fun ch => s.dets[ch].leftFrom s.acq) s.lanes
  have dets : (tabulate fun ch => if ch ∈ channels then (tabulate fun ch => s.dets[ch].leftFrom s.acq)[ch].forcedOff .off
      else (tabulate fun ch => s.dets[ch].leftFrom s.acq)[ch]) = tabulate fun ch => s.dets[ch].forcedOff s.acq :=
    table_ext fun ch => by rw [tabulate_get, tabulate_get, tabulate_get, if_pos (mem_channels ch), leftFrom_forcedOff]
  rw [forcedHits_leftFrom, dets] at folded
  have kept := (carried_forcedClosures forces.cause s).keeps s
  generalize (s.forcedClosures r.cause).foldl (fun u c => handOn c u) s = handed at folded kept ⊢
  generalize blocked : (tabulate fun ch => s.dets[ch].forcedOff s.acq) = d at folded
  have closed (ch : Channel) (h : OpenHit) : (s.reskin d l' .off).dets[ch].machine ≠ .inHit h := by
    rw [show (s.reskin d l' .off).dets[ch] = s.dets[ch].forcedOff s.acq by subst blocked; exact tabulate_get _ ch, forcedOff_machine]
    exact DetState.noConfusion
  have dissolved : dissolveAll (handed.reskin d l' .off) = (s.reskin d l' .off).bearing (dissolveAll handed) :=
    (congrArg (fun u => dissolveAll (State.reskin d l' .off u)) kept).trans (dissolveAll_bearing closed handed)
  have stopped : (tabulate fun ch => l'[ch].toOff) = tabulate fun ch => s.lanes[ch].toOff := lanes.toOff
  have pl : (if s.ticking = true then s.pl.resync else s.pl) = if s.synth = .locked then
      { s.pl with state := .syncing, slotTicks := 0, slotFilled := false, missingRun := 0 } else s.pl := if_congr ticking_iff rfl rfl
  unfold enterOff
  simp only
  rw [leaveForOff_eq, folded, forces.dissolves, dissolved]
  unfold State.forcedDown
  rw [← stopped, blocked, ← pl]
  rfl

end Sys2Proof.Machine
end

section
/-! ABORT and a loss of lock in every acquisition state (sections 1.1, 2.2, 2.4, 3.3, 3.4, 6.7). -/

namespace Sys2Proof.Machine

/-! ## What closures and dissolutions leave of the part -/

theorem forcedOff_det (a : Acq) (d : Detector) :
    (d.forcedOff a).machine = .blocked ∧ (d.forcedOff a).waiting = none ∧ (d.forcedOff a).hitsOpened = d.hitsOpened ∧
      (d.forcedOff a).noise = d.noise := by
  obtain ⟨machine, _, _, _, waits, _⟩ := d
  cases a <;> cases machine <;> cases waits <;> exact ⟨rfl, rfl, rfl, rfl⟩

/-- The work of closures, dissolutions and settings, as an entry to OFF puts it together. -/
structure OffWork (f : State → State) : Prop where
  carried : CarriedButMarks f
  routine : ∀ s, Routine s (f s)
  handed : ∀ s, HandsOn s (f s)

theorem OffWork.comp {f g : State → State} (hf : OffWork f) (hg : OffWork g) : OffWork fun s => f (g s) :=
  ⟨hf.carried.comp hg.carried, fun s => (hg.routine s).trans (hf.routine _), fun s => (hg.handed s).trans (hf.handed _)⟩

theorem offWork_setFactor (f : Factor) (index : Nat) (reached : Option Nat) : OffWork (setFactor f index reached) :=
  ⟨(carried_setFactor f index reached).butMarks, setFactor_routine f index reached, setFactor_handsOn f index reached⟩

theorem offWork_dissolveAll : OffWork dissolveAll := ⟨carried_dissolveAll, dissolveAll_routine, dissolveAll_handsOn⟩

theorem offWork_forcedClosures {cause : Closure} (forced : cause = .aborted ∨ cause = .clockFault) (s : State) :
    OffWork fun u => (s.forcedClosures cause).foldl (fun u c => handOn c u) u :=
  ⟨(carried_forcedClosures forced s).butMarks, Routine.foldl (fun u c => handOn_routine c u) _,
    HandsOn.foldl (fun u c => handOn_handsOn c u) _⟩

/-- Beside what a state bears, the work may start from any state. -/
theorem OffWork.bearing {f : State → State} (work : OffWork f) (v s w : State) : v.bearing (f (s.bearing w)) = v.bearing (f w) := by
  obtain ⟨d, same⟩ := work.carried s w
  rw [same]
  rfl

/-- The part that bears the work has its records, segments, contexts and conditions. -/
theorem OffWork.borne {f : State → State} (work : OffWork f) (s : State) :
    let t := s.forcedDown.bearing (f s)
    t.rq = (f s).rq ∧ t.wave = (f s).wave ∧ t.asm = (f s).asm ∧ t.cond = (f s).cond ∧ t.timer.figures = (f s).timer.figures := by
  obtain ⟨d, kept⟩ := work.carried.keeps s
  exact ⟨(congrArg State.rq kept).symm, rfl, (congrArg State.asm kept).symm, rfl, rfl⟩

theorem OffWork.left {f : State → State} (work : OffWork f) (s : State) (free : ∀ k : Fin 4, (f s).asm.contexts[k] = none) :
    let t := s.forcedDown.bearing (f s)
    t = { s with
      acq := .off
      synth := .stopped
      dets := t.dets
      lanes := tabulate fun ch => s.lanes[ch].toOff
      pl := if s.synth = .locked then { s.pl with state := .syncing, slotTicks := 0, slotFilled := false, missingRun := 0 }
            else s.pl
      asm := { s.asm with contexts := Vector.replicate 4 none, eventsDissolved := t.asm.eventsDissolved }
      timer := { s.timer with period := none, ticks := 0, figures := t.timer.figures }
      wave := t.wave
      cond := { s.cond with factors := t.cond.factors }
      rq := { s.rq with hits := t.rq.hits, notices := t.rq.notices, shed := t.rq.shed, counts := t.rq.counts } } := by
  have fixed := (work.routine s).fixed
  have tables : (f s).tables = s.tables := congrArg Fixed.tables fixed
  have tt : (f s).tt = s.tt := congrArg Fixed.tt fixed
  have now : (f s).now = s.now := congrArg Fixed.now fixed
  have enables : (f s).cond.enables = s.cond.enables := congrArg Fixed.enables fixed
  have groupEnables : (f s).cond.groupEnables = s.cond.groupEnables := congrArg Fixed.groupEnables fixed
  have cond : (f s).cond = { s.cond with factors := (f s).cond.factors } := by
    simp only [← enables, ← groupEnables]
  have contexts : (f s).asm.contexts = Vector.replicate 4 none := table_ext fun k => (free k).trans (by revert k; decide)
  intro t
  refine Eq.trans (b := { s.forcedDown.bearing (f s) with
    tables := s.tables, tt := s.tt, now := s.now, cond := { s.cond with factors := (f s).cond.factors },
    asm := { s.asm with contexts := Vector.replicate 4 none, eventsDissolved := (f s).asm.eventsDissolved } }) ?_ rfl
  rw [← tables, ← tt, ← now, ← cond, ← contexts]
  rfl

theorem OffWork.dets {f : State → State} (s : State) (ch : Channel) :
    (s.forcedDown.bearing (f s)).dets[ch] = s.dets[ch].forcedOff s.acq := tabulate_get _ ch

theorem OffWork.grows {f : State → State} (work : OffWork f) (s : State) :
    let t := s.forcedDown.bearing (f s)
    s.wave.sendList <+: t.wave.sendList ∧ t.wave.rings = s.wave.rings ∧ s.rq.hits <+: t.rq.hits :=
  ⟨(work.handed s).sendList, (work.handed s).rings, (work.routine s).grows.hits⟩

theorem forcedDown_unsent (s w : State) : Unsent s (s.forcedDown.bearing w) := ⟨id, rfl⟩

/-! ## ABORT -/

/-- R27, R55, R115: the closures, the dissolutions and the setting of an ABORT. -/
def State.abortWork (s u : State) : State :=
  setFactor .aborted 0 none (dissolveAll ((s.forcedClosures .aborted).foldl (fun u c => handOn c u) u))

theorem offWork_abort (s : State) : OffWork s.abortWork :=
  (offWork_setFactor .aborted 0 none).comp (offWork_dissolveAll.comp (offWork_forcedClosures (.inl rfl) s))

theorem abortWork_free (s u : State) (k : Fin 4) : (s.abortWork u).asm.contexts[k] = none := by
  unfold State.abortWork
  rw [(setFactor_booked _ _ _ _).asm]
  exact dissolveAll_free _ k

theorem abortWork_latched (s u : State) : (s.abortWork u).cond.factors.get .aborted = true := by
  unfold State.abortWork
  rw [setFactor_get, beq_self_eq_true, Bool.or_true]

theorem abort_eq (s : State) : abort s = Answer.controlled (s.forcedDown.bearing (s.abortWork s)) .ok := by
  unfold abort
  rw [enterOff_forced (.inl rfl)]
  exact congrArg (Answer.controlled · .ok) (carried_setFactor _ _ _ _ _)

theorem abort_counted (s : State) :
    abort (countTaken s) = Answer.controlled (countTaken (s.forcedDown.bearing (s.abortWork s))) .ok := by
  rw [abort_eq]
  exact congrArg (Answer.controlled · .ok) ((offWork_abort s).bearing (countTaken s).forcedDown (countTaken s) s)

/-- Settles O23: the end of an entry to OFF with reason "abort", and the setting of ACQ.ABORTED. -/
theorem abortForcesOff : Obligations.AbortForcesOff := by
  intro s tag quiet
  have work := offWork_abort s
  obtain ⟨sendList, rings, hits⟩ := work.grows s
  refine ⟨s.forcedDown.bearing (s.abortWork s), ?_, work.left s (abortWork_free s s), OffWork.dets s, fun ch => ?_, work.borne s,
    sendList, rings, hits, ?_⟩
  · exact exec_quiet quiet (r := { kind := 0x03, tag := tag, args := [] }) rfl (abort_counted s)
      ((forcedDown_unsent s _).atRest quiet.toAtRest).cannotStart
  · rw [OffWork.dets]
    exact forcedOff_det _ _
  · exact abortWork_latched s s

/-! ## A loss of lock -/

/-- R4, R28, R55, R115: the setting, the closures and the dissolutions of a loss of lock. -/
def State.lossWork (s u : State) : State :=
  dissolveAll ((s.forcedClosures .clockFault).foldl (fun u c => handOn c u) (setFactor .lockLost 0 none u))

theorem offWork_loss (s : State) : OffWork s.lossWork :=
  offWork_dissolveAll.comp ((offWork_forcedClosures (.inr rfl) s).comp (offWork_setFactor .lockLost 0 none))

theorem lossWork_free (s u : State) (k : Fin 4) : (s.lossWork u).asm.contexts[k] = none := by
  unfold State.lossWork
  exact dissolveAll_free _ k

theorem lossWork_latched (v s u : State) : (v.bearing (s.lossWork u)).cond.factors.get .lockLost = true := by
  have set : (setFactor .lockLost 0 none u).cond.factors.get .lockLost = true := by
    rw [setFactor_get, beq_self_eq_true, Bool.or_true]
  unfold State.lossWork State.bearing
  simp only
  generalize setFactor .lockLost 0 none u = v at set ⊢
  have closed := Routine.foldl (fun u c => handOn_routine c u) (s.forcedClosures .clockFault) v
  exact (closed.trans (dissolveAll_routine _)).grows.latched .lockLost set

/-- R4, R22: the part at the moment that LOCKED is lost. -/
def State.unlocked (s : State) : State := { s with synth := .lost, pl := s.pl.resync }

theorem loseLock_eq {s : State} (locked : s.synth = .locked) : loseLock s = s.forcedDown.bearing (s.lossWork s) := by
  have raised : raise .lockLost s.unlocked = s.unlocked.bearing (raise .lockLost s) := carried_setFactor _ _ _ s.unlocked s
  have down (w : State) : (s.unlocked.bearing w).forcedDown = s.forcedDown.bearing w := by
    unfold State.forcedDown
    rw [locked]
    rfl
  calc loseLock s = enterOff .clock (s.unlocked.bearing (raise .lockLost s)) := congrArg (enterOff .clock) raised
    _ = (s.unlocked.bearing (raise .lockLost s)).forcedDown.bearing
          (dissolveAll ((s.forcedClosures .clockFault).foldl (fun u c => handOn c u) (s.unlocked.bearing (raise .lockLost s)))) :=
        enterOff_forced (.inr rfl) _
    _ = s.forcedDown.bearing
          (dissolveAll ((s.forcedClosures .clockFault).foldl (fun u c => handOn c u) (s.unlocked.bearing (raise .lockLost s)))) := by
        rw [down]
        rfl
    _ = s.forcedDown.bearing (s.lossWork s) :=
        (offWork_dissolveAll.comp (offWork_forcedClosures (.inr rfl) s)).bearing _ s.unlocked (raise .lockLost s)

/-- Settles O40: the setting of CLOCK.LOCK_LOST, and the end of an entry to OFF with reason "clock". -/
theorem lockLostForcesOff : Obligations.LockLostForcesOff := by
  intro s
  refine ⟨fun idle => ?_, fun rest locked => ?_⟩
  · show execLockLost s = .next s
    unfold execLockLost
    cases synth : s.synth with
    | locked => exact absurd synth idle
    | stopped | locking _ | lost => rfl
  have work := offWork_loss s
  have left := work.left s (lossWork_free s s)
  obtain ⟨sendList, rings, hits⟩ := work.grows s
  have borne := work.borne s
  unfold State.lossWork at borne
  rw [if_pos locked] at left
  refine ⟨s.forcedDown.bearing (s.lossWork s), ?_, left, OffWork.dets s, fun ch => ?_, borne, sendList, rings, hits, ?_⟩
  · have lost : exec .lockLost s = .next (finish (loseLock s)) := by
      show execLockLost s = _
      unfold execLockLost
      rw [locked]
    rw [lost, loseLock_eq locked]
    exact congrArg Host.Outcome.next (finish_unsent (forcedDown_unsent s _) rest)
  · rw [OffWork.dets]
    exact forcedOff_det _ _
  · exact lossWork_latched s.forcedDown s s

end Sys2Proof.Machine
end
